-- ==== Sys2Proof/Word.lean ====
section
/-! DEFINITION. Words of the core (00_scope.md R6): a byte is 8 bits, a hexadecimal digit value 4 bits.
All values are unsigned. -/

namespace Sys2Proof

/-- A byte: bits 7..0, bit 0 the least significant (R6). -/
abbrev Byte := BitVec 8

/-- The value of one hexadecimal digit (R17 `scn.hn`, `scn.dig`; R61). -/
abbrev Nibble := BitVec 4

end Sys2Proof
end

