-- ==== Sys2Proof/Values.lean ====
section
/-! DEFINITION. The value types of operands and results (10_state.md R10 to R14). -/

namespace Sys2Proof

/-- A header (R10): 11 bits in three fields. `major = 3` is legal and has no name (R52). -/
structure Header where
  major : BitVec 2
  minor : BitVec 2
  sid   : BitVec 7
deriving DecidableEq, Repr

/-- The classification of a ROM entry (R12), in the order of R72's codes 0 to 3. -/
inductive OpClass where
  | general
  | config
  | accessory
  | dcc
deriving DecidableEq, Repr, Inhabited

/-- One entry of the opcode ROM (R12). Its address is not stored in it. -/
structure Descriptor where
  name         : String
  byteCount    : BitVec 3
  defaultMinor : BitVec 2
  cls          : OpClass
deriving DecidableEq, Repr

/-- The contents of the opcode ROM (R15, R30 to R32): (address, entry) pairs. `romWf` is the canonical form. -/
abbrev Rom := List (Byte × Descriptor)

/-- A message (R13): the opcode byte and its payload. `Message.lengthOk` is its length invariant. -/
structure Message where
  op      : Byte
  payload : List Byte
deriving DecidableEq, Repr

/-- A frame (R14). Any combination of the three fields is a frame. -/
structure Frame where
  header  : Header
  message : Option Message
  rtr     : Bool
deriving DecidableEq, Repr

namespace Major
/-- The named values of the major priority (R52); 3 has no name. -/
abbrev emergency : BitVec 2 := 0
/-- HIGH (R52). -/
abbrev high : BitVec 2 := 1
/-- NORMAL (R52). -/
abbrev normal : BitVec 2 := 2
end Major

namespace Minor
/-- The values of the minor priority (R52). -/
abbrev high : BitVec 2 := 0
/-- ABOVE_NORMAL (R52). -/
abbrev aboveNormal : BitVec 2 := 1
/-- NORMAL (R52). -/
abbrev normal : BitVec 2 := 2
/-- LOW (R52). -/
abbrev low : BitVec 2 := 3
end Minor

end Sys2Proof
end

