-- ==== Sys2Proof/Machine/Bits.lean ====
section
/-! DEFINITION. The bit-field formulas, byte order and characters of 30_encoding.md and of the unit files: every
packing and unpacking formula is written once, here. -/

namespace Sys2Proof
namespace Bits

/-- `v >> 5` (R55, R110, R111): the payload byte count of an opcode value. -/
def byteCount (v : Byte) : BitVec 3 := (v >>> 5).setWidth 3

/-- The same as a number of bytes. -/
def payloadLen (v : Byte) : Nat := (byteCount v).toNat

/-- F-PRI (R51, R81): `(major << 6) | (minor << 4)`. -/
def packPri (major minor : BitVec 2) : Byte := (major.setWidth 8 <<< 6) ||| (minor.setWidth 8 <<< 4)

/-- `(b >> 6) & 0x03` (R82). -/
def majorOf (b : Byte) : BitVec 2 := ((b >>> 6) &&& 0x03#8).setWidth 2

/-- `(b >> 4) & 0x03` (R82). -/
def minorOf (b : Byte) : BitVec 2 := ((b >>> 4) &&& 0x03#8).setWidth 2

/-- `high_byte` of a header (R53, R91). -/
def highByte (h : Header) : Byte :=
  (h.major.setWidth 8 <<< 6) ||| (h.minor.setWidth 8 <<< 4) ||| (h.sid.setWidth 8 >>> 3)

/-- `low_byte` of a header (R53, R91): bits 4..0 are zero. -/
def lowByte (h : Header) : Byte := (h.sid.setWidth 8 &&& 0x07#8) <<< 5

/-- The header of two bytes (R93); `lb[4:0]` is not read (R94). -/
def headerOf (hb lb : Byte) : Header where
  major := majorOf hb
  minor := minorOf hb
  sid   := (((hb &&& 0x0F#8) <<< 3) ||| ((lb >>> 5) &&& 0x07#8)).setWidth 7

/-- First byte of the 11-bit identifier (R54, R97): `hb >> 5`. -/
def canTop (h : Header) : Byte := highByte h >>> 5

/-- Second byte of the 11-bit identifier (R54, R97): `((hb & 0x1F) << 3) | (lb >> 5)`. -/
def canLow (h : Header) : Byte := ((highByte h &&& 0x1F#8) <<< 3) ||| (lowByte h >>> 5)

/-- The header whose 11-bit identifier is `id`: `id = (major << 9) | (minor << 7) | sid` (R54, R97). -/
def headerOfCanId (id : BitVec 11) : Header where
  major := id.extractLsb' 9 2
  minor := id.extractLsb' 7 2
  sid   := id.extractLsb' 0 7

/-- `be16(n)` (R6, R35): the byte of the high bits first. -/
def be16 (n : BitVec 16) : List Byte := [(n >>> 8).setWidth 8, n.setWidth 8]

/-- A 16-bit number from its two big-endian bytes (R35, R63). -/
def ofBe16 (hi lo : Byte) : BitVec 16 := (hi.setWidth 16 <<< 8) ||| lo.setWidth 16

/-- Direction in bit 7 and `speed & 0x7F` below it (R63, R151). -/
def speedDir (dir : BitVec 1) (speed : Byte) : Byte := (dir.setWidth 8 <<< 7) ||| (speed &&& 0x7F#8)

/-! The characters of the wire form (R60). PRESUMED by the spec itself: the codes are ASCII's (log 19). -/

/-- `':'` -/
abbrev colon : Byte := 0x3A
/-- `';'` -/
abbrev semicolon : Byte := 0x3B
/-- `'S'` -/
abbrev charS : Byte := 0x53
/-- `'N'` -/
abbrev charN : Byte := 0x4E
/-- `'R'` -/
abbrev charR : Byte := 0x52

/-- The value of a hexadecimal digit of either case, or none (R61). -/
def hexval (c : Byte) : Option Nibble :=
  if 0x30 ≤ c.toNat ∧ c.toNat ≤ 0x39 then some ((c - 0x30#8).setWidth 4)
  else if 0x41 ≤ c.toNat ∧ c.toNat ≤ 0x46 then some ((c - 0x37#8).setWidth 4)
  else if 0x61 ≤ c.toNat ∧ c.toNat ≤ 0x66 then some ((c - 0x57#8).setWidth 4)
  else none

/-- `ishex(c)` (R61). -/
def ishex (c : Byte) : Bool := (hexval c).isSome

/-- `HEXCHR(n)` (R62): upper case. -/
def hexchr (n : Nibble) : Byte := if n.toNat ≤ 9 then 0x30#8 + n.setWidth 8 else 0x37#8 + n.setWidth 8

/-- The high nibble of a byte. -/
def hiNibble (b : Byte) : Nibble := (b >>> 4).setWidth 4

/-- The low nibble of a byte. -/
def loNibble (b : Byte) : Nibble := b.setWidth 4

/-- `HEX2(b)` (R62): two digits, high nibble first (R37). -/
def hex2 (b : Byte) : List Byte := [hexchr (hiNibble b), hexchr (loNibble b)]

/-- The digits of a byte sequence, two for each byte, in order (R57, R135). -/
def hexBytes (bs : List Byte) : List Byte := bs.flatMap hex2

/-- Two digit values make one byte, high nibble first (R37, R61): `(hi << 4) | lo`. -/
def ofNibbles (hi lo : Nibble) : Byte := (hi.setWidth 8 <<< 4) ||| lo.setWidth 8

/-- Digit values paired into bytes; none when their number is odd (R186). -/
def pairNibbles : List Nibble → Option (List Byte)
  | [] => some []
  | [_] => none
  | hi :: lo :: ds => (pairNibbles ds).map (ofNibbles hi lo :: ·)

end Bits

/-- The binary form of a message, `[op] ++ payload` (R130). -/
def Message.bytes (m : Message) : List Byte := m.op :: m.payload

/-- The length invariant of a message (R13, R130): `len(payload) = op >> 5`. -/
def Message.lengthOk (m : Message) : Bool := m.payload.length == Bits.payloadLen m.op

/-- The message of a frame, if it has one, keeps the length invariant (R14). -/
def Frame.messageOk (f : Frame) : Bool :=
  match f.message with
  | none => true
  | some m => m.lengthOk

end Sys2Proof
end

