-- ==== Sys2Proof/Config.lean ====
section
/-! DEFINITION. What an implementation fixes (00_scope.md R4) and the free values: constants without a body, of
which no proof can learn a value. The default ROM contents are those of 93_implementation_defined.md G3. -/

namespace Sys2Proof
namespace Config

/-- `NAME_PAD` (R4, R154, D12): the pad byte of the module-name packer. The spec leaves it open. DESIGN CHOICE: a free
value (safe; log 7). -/
opaque namePad : Byte

/-- `SID_IN_W` (R4, R91, D5): the width of HDR.ENC's source-id operand, "any width >= 9; default 16".
DESIGN CHOICE: the default (log 8). -/
abbrev sidInW : Nat := 16

/-- The default minor priority of the entry at an address, not in the source (R117, N3). DESIGN CHOICE: a free value
(safe; log 6). -/
opaque defaultMinor : Byte → BitVec 2

/-- The classification of the entry at an address, not in the source (R117, N3). DESIGN CHOICE: a free value
(safe; log 6). -/
opaque entryClass : Byte → OpClass

/-- The unspecified content of `scn.hn[k]` at the start of a scan (R17, U10), by `k`. DESIGN CHOICE: a free value (safe; log 9). -/
opaque freeNibble : Nat → Nibble

/-- The unspecified content of `scn.rtr` at the start of a scan (R17, U10). DESIGN CHOICE: a free value (safe; log 9). -/
opaque freeRtr : Bool

/-- The unspecified content of `scn.start` at the start of a scan (R17, U10). DESIGN CHOICE: a free value
(safe; log 9). -/
opaque freeStart : Nat

/-- Addresses and names of G3 with 0 payload bytes. -/
def names0 : List (Byte × String) := [
  (0x00, "ACK"), (0x01, "NAK"), (0x02, "HLT"), (0x03, "BON"), (0x04, "TOF"),
  (0x05, "TON"), (0x06, "ESTOP"), (0x07, "ARST"), (0x08, "RTOF"), (0x09, "RTON"),
  (0x0A, "RESTP"), (0x0C, "RSTAT"), (0x0D, "QNN"), (0x10, "RQNP"), (0x11, "RQMN")]

/-- Addresses and names of G3 with 1 payload byte. -/
def names1 : List (Byte × String) := [
  (0x21, "KLOC"), (0x22, "QLOC"), (0x23, "DKEEP"), (0x30, "DBG1"), (0x3F, "EXTC")]

/-- Addresses and names of G3 with 2 payload bytes. -/
def names2 : List (Byte × String) := [
  (0x40, "RLOC"), (0x41, "QCON"), (0x42, "SNN"), (0x43, "ALOC"), (0x44, "STMOD"),
  (0x45, "PCON"), (0x46, "KCON"), (0x47, "DSPD"), (0x48, "DFLG"), (0x49, "DFNON"),
  (0x4A, "DFNOF"), (0x4C, "SSTAT"), (0x4F, "NNRSM"), (0x50, "RQNN"), (0x51, "NNREL"),
  (0x52, "NNACK"), (0x53, "NNLRN"), (0x54, "NNULN"), (0x55, "NNCLR"), (0x56, "NNEVN"),
  (0x57, "NERD"), (0x58, "RQEVN"), (0x59, "WRACK"), (0x5A, "RQDAT"), (0x5B, "RQDDS"),
  (0x5C, "BOOTM"), (0x5D, "ENUM"), (0x5E, "NNRST"), (0x5F, "EXTC1")]

/-- Addresses and names of G3 with 3 payload bytes. -/
def names3 : List (Byte × String) := [
  (0x60, "DFUN"), (0x61, "GLOC"), (0x63, "ERR"), (0x6F, "CMDERR"), (0x70, "EVNLF"),
  (0x71, "NVRD"), (0x72, "NENRD"), (0x73, "RQNPN"), (0x74, "NUMEV"), (0x75, "CANID"),
  (0x7F, "EXTC2")]

/-- Addresses and names of G3 with 4 payload bytes. -/
def names4 : List (Byte × String) := [
  (0x80, "RDCC3"), (0x82, "WCVO"), (0x83, "WCVB"), (0x84, "QCVS"), (0x85, "PCVS"),
  (0x90, "ACON"), (0x91, "ACOF"), (0x92, "AREQ"), (0x93, "ARON"), (0x94, "AROF"),
  (0x95, "EVULN"), (0x96, "NVSET"), (0x97, "NVANS"), (0x98, "ASON"), (0x99, "ASOF"),
  (0x9A, "ASRQ"), (0x9B, "PARAN"), (0x9C, "REVAL"), (0x9D, "ARSON"), (0x9E, "ARSOF"),
  (0x9F, "EXTC3")]

/-- Addresses and names of G3 with 5 payload bytes. -/
def names5 : List (Byte × String) := [
  (0xA0, "RDCC4"), (0xA2, "WCVS"), (0xB0, "ACON1"), (0xB1, "ACOF1"), (0xB2, "REQEV"),
  (0xB3, "ARON1"), (0xB4, "AROF1"), (0xB5, "NEVAL"), (0xB6, "PNN"), (0xB8, "ASON1"),
  (0xB9, "ASOF1"), (0xBD, "ARSON1"), (0xBE, "ARSOF1"), (0xBF, "EXTC4")]

/-- Addresses and names of G3 with 6 payload bytes. -/
def names6 : List (Byte × String) := [
  (0xC0, "RDCC5"), (0xC1, "WCVOA"), (0xC2, "CABDAT"), (0xCF, "FCLK"), (0xD0, "ACON2"),
  (0xD1, "ACOF2"), (0xD2, "EVLRN"), (0xD3, "EVANS"), (0xD4, "ARON2"), (0xD5, "AROF2"),
  (0xD8, "ASON2"), (0xD9, "ASOF2"), (0xDD, "ARSON2"), (0xDE, "ARSOF2"), (0xDF, "EXTC5")]

/-- Addresses and names of G3 with 7 payload bytes. -/
def names7 : List (Byte × String) := [
  (0xE0, "RDCC6"), (0xE1, "PLOC"), (0xE2, "NAME"), (0xE3, "STAT"), (0xEF, "PARAMS"),
  (0xF0, "ACON3"), (0xF1, "ACOF3"), (0xF2, "ENRSP"), (0xF3, "ARON3"), (0xF4, "AROF3"),
  (0xF5, "EVLRNI"), (0xF6, "ACDAT"), (0xF7, "ARDAT"), (0xF8, "ASON3"), (0xF9, "ASOF3"),
  (0xFA, "DDES"), (0xFB, "DDRS"), (0xFD, "ARSON3"), (0xFE, "ARSOF3"), (0xFF, "EXTC6")]

/-- Addresses and names of the default catalog (G3), addresses rising. Not normative (R112, D8): DESIGN CHOICE, used as
the contents of the ROM at reset only (unsafe; log 5). -/
def defaultNames : List (Byte × String) :=
  names0 ++ names1 ++ names2 ++ names3 ++ names4 ++ names5 ++ names6 ++ names7

/-- The entry of the default catalog at `v` named `name`: its `byte_count` is `v >> 5` (R113). -/
def defaultEntry (v : Byte) (name : String) : Descriptor where
  name         := name
  byteCount    := Bits.byteCount v
  defaultMinor := defaultMinor v
  cls          := entryClass v

/-- The default contents of the ROM (R112, G3). -/
def defaultCatalog : Rom := defaultNames.map fun e => (e.1, defaultEntry e.1 e.2)

end Config
end Sys2Proof
end

