-- ==== Sys2Proof/Syntax.lean ====
section
/-! DEFINITION. The syntax: one constructor for each row of spec/opcode_table.json, carrying the row's operand bundle
(10_state.md R23). -/

namespace Sys2Proof

/-- The rows of the table. The first 24 are the operations of 30_encoding.md R70, with the operand bundle of R23. Then
come the eight unused operation codes (R70), the five data formats (R50), the eight ROM entries the source names (R114,
R115) and the 130 ROM entries of the default catalog (R71, G3), each with the payload of its binary message. -/
inductive Instr where
  /-- PRI.PACK (R81). -/
  | priPack (major minor : BitVec 2)
  /-- PRI.UNPACK (R82). -/
  | priUnpack (b : Byte)
  /-- HDR.ENC (R91). -/
  | hdrEnc (major minor : BitVec 2) (sidIn : BitVec Config.sidInW)
  /-- HDR.DEC (R93). -/
  | hdrDec (bs : List Byte)
  /-- HDR.REG (R96). -/
  | hdrReg (h : Header)
  /-- HDR.CANID (R97). -/
  | hdrCanid (h : Header)
  /-- HDR.ASCII (R98). -/
  | hdrAscii (h : Header)
  /-- HDR.EQ (R99). -/
  | hdrEq (h1 h2 : Header)
  /-- CAT.LEN (R111). -/
  | catLen (v : Byte)
  /-- CAT.LOOKUP (R118). -/
  | catLookup (v : Byte)
  /-- CAT.CHECK (R119). -/
  | catCheck
  /-- MSG.NEW (R131); `none` is the operand `omitted`. -/
  | msgNew (v : Byte) (payload : Option (List Byte))
  /-- MSG.DEC (R133). -/
  | msgDec (bs : List Byte)
  /-- MSG.HEX (R135). -/
  | msgHex (m : Message)
  /-- MSG.EQ (R136). -/
  | msgEq (m1 m2 : Message)
  /-- PK.ENG (R151). -/
  | pkEng (v session : Byte) (addr : BitVec 16) (speed : Byte) (dir : BitVec 1) (f1 f2 f3 : Option Byte)
  /-- PK.ALEV (R152). -/
  | pkAlev (v : Byte) (node event : BitVec 16)
  /-- PK.CSRPT (R153). -/
  | pkCsrpt (v : Byte) (node : BitVec 16) (cs flags majorRev minorRev : Byte) (build : Option Byte)
  /-- PK.NAME (R154). -/
  | pkName (v : Byte) (name : List Byte)
  /-- PK.U16 (R155). -/
  | pkU16 (v : Byte) (n : BitVec 16)
  /-- PK.U8 (R156). -/
  | pkU8 (v n : Byte)
  /-- FRM.ENC (R171). -/
  | frmEnc (f : Frame)
  /-- FRM.SCAN (R180). -/
  | frmScan (buf : List Byte)
  /-- FRM.EQ (R175). -/
  | frmEq (f1 f2 : Frame)
  /-- Unused operation code 0x0F (R70). -/
  | unused0F
  /-- Unused operation code 0x16 (R70). -/
  | unused16
  /-- Unused operation code 0x17 (R70). -/
  | unused17
  /-- Unused operation code 0x1B (R70). -/
  | unused1B
  /-- Unused operation code 0x1C (R70). -/
  | unused1C
  /-- Unused operation code 0x1D (R70). -/
  | unused1D
  /-- Unused operation code 0x1E (R70). -/
  | unused1E
  /-- Unused operation code 0x1F (R70). -/
  | unused1F
  /-- F-PRI (R51): a priority byte. -/
  | formatPri (b : Byte)
  /-- F-HDR (R53): a packed header. -/
  | formatHdr (hb lb : Byte)
  /-- F-CANID (R54): an 11-bit identifier. -/
  | formatCanid (id : BitVec 11)
  /-- F-MSG (R55): a binary message. -/
  | formatMsg (bs : List Byte)
  /-- F-WIRE (R57): ASCII frames. -/
  | formatWire (buf : List Byte)
  /-- The ROM entry 0x23, session-keep-alive (R74, R114). -/
  | entrySessionKeepAlive (session : Byte)
  /-- The ROM entry 0x40, request-engine-session (R74, R114). -/
  | entryRequestEngineSession (locoAddress : BitVec 16)
  /-- The ROM entry named ACON (R74, R114). -/
  | entryAcon (node event : BitVec 16)
  /-- The engine report at 0xE0 + idx (R115, R151). -/
  | entryEngineReport (idx : BitVec 5) (session : Byte) (addr : BitVec 16) (speed : Byte) (dir : BitVec 1) (f1 f2 f3 : Option Byte)
  /-- The command-station report at 0xE0 + idx (R115, R153). -/
  | entryCommandStationReport (idx : BitVec 5) (node : BitVec 16) (cs flags majorRev minorRev : Byte) (build : Option Byte)
  /-- The module name at 0xE0 + idx (R115, R154). -/
  | entryModuleName (idx : BitVec 5) (name : List Byte)
  /-- The ROM entry named CMDERR (R115). -/
  | entryCmderr (payload : Option (List Byte))
  /-- The ROM entry named ERR (R115). -/
  | entryErr (payload : Option (List Byte))
  /-- ACK, 0x00 (R71, G3). -/
  | romACK (payload : List Byte)
  /-- NAK, 0x01 (R71, G3). -/
  | romNAK (payload : List Byte)
  /-- HLT, 0x02 (R71, G3). -/
  | romHLT (payload : List Byte)
  /-- BON, 0x03 (R71, G3). -/
  | romBON (payload : List Byte)
  /-- TOF, 0x04 (R71, G3). -/
  | romTOF (payload : List Byte)
  /-- TON, 0x05 (R71, G3). -/
  | romTON (payload : List Byte)
  /-- ESTOP, 0x06 (R71, G3). -/
  | romESTOP (payload : List Byte)
  /-- ARST, 0x07 (R71, G3). -/
  | romARST (payload : List Byte)
  /-- RTOF, 0x08 (R71, G3). -/
  | romRTOF (payload : List Byte)
  /-- RTON, 0x09 (R71, G3). -/
  | romRTON (payload : List Byte)
  /-- RESTP, 0x0A (R71, G3). -/
  | romRESTP (payload : List Byte)
  /-- RSTAT, 0x0C (R71, G3). -/
  | romRSTAT (payload : List Byte)
  /-- QNN, 0x0D (R71, G3). -/
  | romQNN (payload : List Byte)
  /-- RQNP, 0x10 (R71, G3). -/
  | romRQNP (payload : List Byte)
  /-- RQMN, 0x11 (R71, G3). -/
  | romRQMN (payload : List Byte)
  /-- KLOC, 0x21 (R71, G3). -/
  | romKLOC (payload : List Byte)
  /-- QLOC, 0x22 (R71, G3). -/
  | romQLOC (payload : List Byte)
  /-- DKEEP, 0x23 (R71, G3). -/
  | romDKEEP (payload : List Byte)
  /-- DBG1, 0x30 (R71, G3). -/
  | romDBG1 (payload : List Byte)
  /-- EXTC, 0x3F (R71, G3). -/
  | romEXTC (payload : List Byte)
  /-- RLOC, 0x40 (R71, G3). -/
  | romRLOC (payload : List Byte)
  /-- QCON, 0x41 (R71, G3). -/
  | romQCON (payload : List Byte)
  /-- SNN, 0x42 (R71, G3). -/
  | romSNN (payload : List Byte)
  /-- ALOC, 0x43 (R71, G3). -/
  | romALOC (payload : List Byte)
  /-- STMOD, 0x44 (R71, G3). -/
  | romSTMOD (payload : List Byte)
  /-- PCON, 0x45 (R71, G3). -/
  | romPCON (payload : List Byte)
  /-- KCON, 0x46 (R71, G3). -/
  | romKCON (payload : List Byte)
  /-- DSPD, 0x47 (R71, G3). -/
  | romDSPD (payload : List Byte)
  /-- DFLG, 0x48 (R71, G3). -/
  | romDFLG (payload : List Byte)
  /-- DFNON, 0x49 (R71, G3). -/
  | romDFNON (payload : List Byte)
  /-- DFNOF, 0x4A (R71, G3). -/
  | romDFNOF (payload : List Byte)
  /-- SSTAT, 0x4C (R71, G3). -/
  | romSSTAT (payload : List Byte)
  /-- NNRSM, 0x4F (R71, G3). -/
  | romNNRSM (payload : List Byte)
  /-- RQNN, 0x50 (R71, G3). -/
  | romRQNN (payload : List Byte)
  /-- NNREL, 0x51 (R71, G3). -/
  | romNNREL (payload : List Byte)
  /-- NNACK, 0x52 (R71, G3). -/
  | romNNACK (payload : List Byte)
  /-- NNLRN, 0x53 (R71, G3). -/
  | romNNLRN (payload : List Byte)
  /-- NNULN, 0x54 (R71, G3). -/
  | romNNULN (payload : List Byte)
  /-- NNCLR, 0x55 (R71, G3). -/
  | romNNCLR (payload : List Byte)
  /-- NNEVN, 0x56 (R71, G3). -/
  | romNNEVN (payload : List Byte)
  /-- NERD, 0x57 (R71, G3). -/
  | romNERD (payload : List Byte)
  /-- RQEVN, 0x58 (R71, G3). -/
  | romRQEVN (payload : List Byte)
  /-- WRACK, 0x59 (R71, G3). -/
  | romWRACK (payload : List Byte)
  /-- RQDAT, 0x5A (R71, G3). -/
  | romRQDAT (payload : List Byte)
  /-- RQDDS, 0x5B (R71, G3). -/
  | romRQDDS (payload : List Byte)
  /-- BOOTM, 0x5C (R71, G3). -/
  | romBOOTM (payload : List Byte)
  /-- ENUM, 0x5D (R71, G3). -/
  | romENUM (payload : List Byte)
  /-- NNRST, 0x5E (R71, G3). -/
  | romNNRST (payload : List Byte)
  /-- EXTC1, 0x5F (R71, G3). -/
  | romEXTC1 (payload : List Byte)
  /-- DFUN, 0x60 (R71, G3). -/
  | romDFUN (payload : List Byte)
  /-- GLOC, 0x61 (R71, G3). -/
  | romGLOC (payload : List Byte)
  /-- ERR, 0x63 (R71, G3). -/
  | romERR (payload : List Byte)
  /-- CMDERR, 0x6F (R71, G3). -/
  | romCMDERR (payload : List Byte)
  /-- EVNLF, 0x70 (R71, G3). -/
  | romEVNLF (payload : List Byte)
  /-- NVRD, 0x71 (R71, G3). -/
  | romNVRD (payload : List Byte)
  /-- NENRD, 0x72 (R71, G3). -/
  | romNENRD (payload : List Byte)
  /-- RQNPN, 0x73 (R71, G3). -/
  | romRQNPN (payload : List Byte)
  /-- NUMEV, 0x74 (R71, G3). -/
  | romNUMEV (payload : List Byte)
  /-- CANID, 0x75 (R71, G3). -/
  | romCANID (payload : List Byte)
  /-- EXTC2, 0x7F (R71, G3). -/
  | romEXTC2 (payload : List Byte)
  /-- RDCC3, 0x80 (R71, G3). -/
  | romRDCC3 (payload : List Byte)
  /-- WCVO, 0x82 (R71, G3). -/
  | romWCVO (payload : List Byte)
  /-- WCVB, 0x83 (R71, G3). -/
  | romWCVB (payload : List Byte)
  /-- QCVS, 0x84 (R71, G3). -/
  | romQCVS (payload : List Byte)
  /-- PCVS, 0x85 (R71, G3). -/
  | romPCVS (payload : List Byte)
  /-- ACON, 0x90 (R71, G3). -/
  | romACON (payload : List Byte)
  /-- ACOF, 0x91 (R71, G3). -/
  | romACOF (payload : List Byte)
  /-- AREQ, 0x92 (R71, G3). -/
  | romAREQ (payload : List Byte)
  /-- ARON, 0x93 (R71, G3). -/
  | romARON (payload : List Byte)
  /-- AROF, 0x94 (R71, G3). -/
  | romAROF (payload : List Byte)
  /-- EVULN, 0x95 (R71, G3). -/
  | romEVULN (payload : List Byte)
  /-- NVSET, 0x96 (R71, G3). -/
  | romNVSET (payload : List Byte)
  /-- NVANS, 0x97 (R71, G3). -/
  | romNVANS (payload : List Byte)
  /-- ASON, 0x98 (R71, G3). -/
  | romASON (payload : List Byte)
  /-- ASOF, 0x99 (R71, G3). -/
  | romASOF (payload : List Byte)
  /-- ASRQ, 0x9A (R71, G3). -/
  | romASRQ (payload : List Byte)
  /-- PARAN, 0x9B (R71, G3). -/
  | romPARAN (payload : List Byte)
  /-- REVAL, 0x9C (R71, G3). -/
  | romREVAL (payload : List Byte)
  /-- ARSON, 0x9D (R71, G3). -/
  | romARSON (payload : List Byte)
  /-- ARSOF, 0x9E (R71, G3). -/
  | romARSOF (payload : List Byte)
  /-- EXTC3, 0x9F (R71, G3). -/
  | romEXTC3 (payload : List Byte)
  /-- RDCC4, 0xA0 (R71, G3). -/
  | romRDCC4 (payload : List Byte)
  /-- WCVS, 0xA2 (R71, G3). -/
  | romWCVS (payload : List Byte)
  /-- ACON1, 0xB0 (R71, G3). -/
  | romACON1 (payload : List Byte)
  /-- ACOF1, 0xB1 (R71, G3). -/
  | romACOF1 (payload : List Byte)
  /-- REQEV, 0xB2 (R71, G3). -/
  | romREQEV (payload : List Byte)
  /-- ARON1, 0xB3 (R71, G3). -/
  | romARON1 (payload : List Byte)
  /-- AROF1, 0xB4 (R71, G3). -/
  | romAROF1 (payload : List Byte)
  /-- NEVAL, 0xB5 (R71, G3). -/
  | romNEVAL (payload : List Byte)
  /-- PNN, 0xB6 (R71, G3). -/
  | romPNN (payload : List Byte)
  /-- ASON1, 0xB8 (R71, G3). -/
  | romASON1 (payload : List Byte)
  /-- ASOF1, 0xB9 (R71, G3). -/
  | romASOF1 (payload : List Byte)
  /-- ARSON1, 0xBD (R71, G3). -/
  | romARSON1 (payload : List Byte)
  /-- ARSOF1, 0xBE (R71, G3). -/
  | romARSOF1 (payload : List Byte)
  /-- EXTC4, 0xBF (R71, G3). -/
  | romEXTC4 (payload : List Byte)
  /-- RDCC5, 0xC0 (R71, G3). -/
  | romRDCC5 (payload : List Byte)
  /-- WCVOA, 0xC1 (R71, G3). -/
  | romWCVOA (payload : List Byte)
  /-- CABDAT, 0xC2 (R71, G3). -/
  | romCABDAT (payload : List Byte)
  /-- FCLK, 0xCF (R71, G3). -/
  | romFCLK (payload : List Byte)
  /-- ACON2, 0xD0 (R71, G3). -/
  | romACON2 (payload : List Byte)
  /-- ACOF2, 0xD1 (R71, G3). -/
  | romACOF2 (payload : List Byte)
  /-- EVLRN, 0xD2 (R71, G3). -/
  | romEVLRN (payload : List Byte)
  /-- EVANS, 0xD3 (R71, G3). -/
  | romEVANS (payload : List Byte)
  /-- ARON2, 0xD4 (R71, G3). -/
  | romARON2 (payload : List Byte)
  /-- AROF2, 0xD5 (R71, G3). -/
  | romAROF2 (payload : List Byte)
  /-- ASON2, 0xD8 (R71, G3). -/
  | romASON2 (payload : List Byte)
  /-- ASOF2, 0xD9 (R71, G3). -/
  | romASOF2 (payload : List Byte)
  /-- ARSON2, 0xDD (R71, G3). -/
  | romARSON2 (payload : List Byte)
  /-- ARSOF2, 0xDE (R71, G3). -/
  | romARSOF2 (payload : List Byte)
  /-- EXTC5, 0xDF (R71, G3). -/
  | romEXTC5 (payload : List Byte)
  /-- RDCC6, 0xE0 (R71, G3). -/
  | romRDCC6 (payload : List Byte)
  /-- PLOC, 0xE1 (R71, G3). -/
  | romPLOC (payload : List Byte)
  /-- NAME, 0xE2 (R71, G3). -/
  | romNAME (payload : List Byte)
  /-- STAT, 0xE3 (R71, G3). -/
  | romSTAT (payload : List Byte)
  /-- PARAMS, 0xEF (R71, G3). -/
  | romPARAMS (payload : List Byte)
  /-- ACON3, 0xF0 (R71, G3). -/
  | romACON3 (payload : List Byte)
  /-- ACOF3, 0xF1 (R71, G3). -/
  | romACOF3 (payload : List Byte)
  /-- ENRSP, 0xF2 (R71, G3). -/
  | romENRSP (payload : List Byte)
  /-- ARON3, 0xF3 (R71, G3). -/
  | romARON3 (payload : List Byte)
  /-- AROF3, 0xF4 (R71, G3). -/
  | romAROF3 (payload : List Byte)
  /-- EVLRNI, 0xF5 (R71, G3). -/
  | romEVLRNI (payload : List Byte)
  /-- ACDAT, 0xF6 (R71, G3). -/
  | romACDAT (payload : List Byte)
  /-- ARDAT, 0xF7 (R71, G3). -/
  | romARDAT (payload : List Byte)
  /-- ASON3, 0xF8 (R71, G3). -/
  | romASON3 (payload : List Byte)
  /-- ASOF3, 0xF9 (R71, G3). -/
  | romASOF3 (payload : List Byte)
  /-- DDES, 0xFA (R71, G3). -/
  | romDDES (payload : List Byte)
  /-- DDRS, 0xFB (R71, G3). -/
  | romDDRS (payload : List Byte)
  /-- ARSON3, 0xFD (R71, G3). -/
  | romARSON3 (payload : List Byte)
  /-- ARSOF3, 0xFE (R71, G3). -/
  | romARSOF3 (payload : List Byte)
  /-- EXTC6, 0xFF (R71, G3). -/
  | romEXTC6 (payload : List Byte)
deriving DecidableEq, Repr

end Sys2Proof
end

