-- ==== Sys2Proof/WellFormed.lean ====
section
/-! DEFINITION. Which terms of Instr are transactions the operand ports of 10_state.md R23 can carry. Widths are in the
types; what is left are lengths and the ASCII range. -/

namespace Sys2Proof
namespace Instr

/-- A byte of a module name is ASCII (R154, D12): less than 0x80. -/
def nameOk (name : List Byte) : Bool := name.all fun b => b.toNat < 0x80

/-- The payload of a binary message at address `v` has `v >> 5` bytes (R55). -/
def payloadFits (v : Byte) (payload : List Byte) : Bool := payload.length == Bits.payloadLen v

/-- The operands of the row are values its ports can carry (R23): HDR.DEC takes at most two bytes (R93, D6), a Message
operand keeps the length invariant (R13), a module name is ASCII (R154). -/
def wellFormed : Instr → Bool
  | .priPack _ _ => true
  | .priUnpack _ => true
  | .hdrEnc _ _ _ => true
  | .hdrDec bs => bs.length ≤ 2
  | .hdrReg _ => true
  | .hdrCanid _ => true
  | .hdrAscii _ => true
  | .hdrEq _ _ => true
  | .catLen _ => true
  | .catLookup _ => true
  | .catCheck => true
  | .msgNew _ _ => true
  | .msgDec _ => true
  | .msgHex m => m.lengthOk
  | .msgEq m1 m2 => m1.lengthOk && m2.lengthOk
  | .pkEng _ _ _ _ _ _ _ _ => true
  | .pkAlev _ _ _ => true
  | .pkCsrpt _ _ _ _ _ _ _ => true
  | .pkName _ name => nameOk name
  | .pkU16 _ _ => true
  | .pkU8 _ _ => true
  | .frmEnc f => f.messageOk
  | .frmScan _ => true
  | .frmEq f1 f2 => f1.messageOk && f2.messageOk
  | .unused0F => true
  | .unused16 => true
  | .unused17 => true
  | .unused1B => true
  | .unused1C => true
  | .unused1D => true
  | .unused1E => true
  | .unused1F => true
  | .formatPri _ => true
  | .formatHdr _ _ => true
  | .formatCanid _ => true
  | .formatMsg _ => true
  | .formatWire _ => true
  | .entrySessionKeepAlive _ => true
  | .entryRequestEngineSession _ => true
  | .entryAcon _ _ => true
  | .entryEngineReport _ _ _ _ _ _ _ _ => true
  | .entryCommandStationReport _ _ _ _ _ _ _ => true
  | .entryModuleName _ name => nameOk name
  | .entryCmderr _ => true
  | .entryErr _ => true
  | .romACK p => payloadFits 0x00 p
  | .romNAK p => payloadFits 0x01 p
  | .romHLT p => payloadFits 0x02 p
  | .romBON p => payloadFits 0x03 p
  | .romTOF p => payloadFits 0x04 p
  | .romTON p => payloadFits 0x05 p
  | .romESTOP p => payloadFits 0x06 p
  | .romARST p => payloadFits 0x07 p
  | .romRTOF p => payloadFits 0x08 p
  | .romRTON p => payloadFits 0x09 p
  | .romRESTP p => payloadFits 0x0A p
  | .romRSTAT p => payloadFits 0x0C p
  | .romQNN p => payloadFits 0x0D p
  | .romRQNP p => payloadFits 0x10 p
  | .romRQMN p => payloadFits 0x11 p
  | .romKLOC p => payloadFits 0x21 p
  | .romQLOC p => payloadFits 0x22 p
  | .romDKEEP p => payloadFits 0x23 p
  | .romDBG1 p => payloadFits 0x30 p
  | .romEXTC p => payloadFits 0x3F p
  | .romRLOC p => payloadFits 0x40 p
  | .romQCON p => payloadFits 0x41 p
  | .romSNN p => payloadFits 0x42 p
  | .romALOC p => payloadFits 0x43 p
  | .romSTMOD p => payloadFits 0x44 p
  | .romPCON p => payloadFits 0x45 p
  | .romKCON p => payloadFits 0x46 p
  | .romDSPD p => payloadFits 0x47 p
  | .romDFLG p => payloadFits 0x48 p
  | .romDFNON p => payloadFits 0x49 p
  | .romDFNOF p => payloadFits 0x4A p
  | .romSSTAT p => payloadFits 0x4C p
  | .romNNRSM p => payloadFits 0x4F p
  | .romRQNN p => payloadFits 0x50 p
  | .romNNREL p => payloadFits 0x51 p
  | .romNNACK p => payloadFits 0x52 p
  | .romNNLRN p => payloadFits 0x53 p
  | .romNNULN p => payloadFits 0x54 p
  | .romNNCLR p => payloadFits 0x55 p
  | .romNNEVN p => payloadFits 0x56 p
  | .romNERD p => payloadFits 0x57 p
  | .romRQEVN p => payloadFits 0x58 p
  | .romWRACK p => payloadFits 0x59 p
  | .romRQDAT p => payloadFits 0x5A p
  | .romRQDDS p => payloadFits 0x5B p
  | .romBOOTM p => payloadFits 0x5C p
  | .romENUM p => payloadFits 0x5D p
  | .romNNRST p => payloadFits 0x5E p
  | .romEXTC1 p => payloadFits 0x5F p
  | .romDFUN p => payloadFits 0x60 p
  | .romGLOC p => payloadFits 0x61 p
  | .romERR p => payloadFits 0x63 p
  | .romCMDERR p => payloadFits 0x6F p
  | .romEVNLF p => payloadFits 0x70 p
  | .romNVRD p => payloadFits 0x71 p
  | .romNENRD p => payloadFits 0x72 p
  | .romRQNPN p => payloadFits 0x73 p
  | .romNUMEV p => payloadFits 0x74 p
  | .romCANID p => payloadFits 0x75 p
  | .romEXTC2 p => payloadFits 0x7F p
  | .romRDCC3 p => payloadFits 0x80 p
  | .romWCVO p => payloadFits 0x82 p
  | .romWCVB p => payloadFits 0x83 p
  | .romQCVS p => payloadFits 0x84 p
  | .romPCVS p => payloadFits 0x85 p
  | .romACON p => payloadFits 0x90 p
  | .romACOF p => payloadFits 0x91 p
  | .romAREQ p => payloadFits 0x92 p
  | .romARON p => payloadFits 0x93 p
  | .romAROF p => payloadFits 0x94 p
  | .romEVULN p => payloadFits 0x95 p
  | .romNVSET p => payloadFits 0x96 p
  | .romNVANS p => payloadFits 0x97 p
  | .romASON p => payloadFits 0x98 p
  | .romASOF p => payloadFits 0x99 p
  | .romASRQ p => payloadFits 0x9A p
  | .romPARAN p => payloadFits 0x9B p
  | .romREVAL p => payloadFits 0x9C p
  | .romARSON p => payloadFits 0x9D p
  | .romARSOF p => payloadFits 0x9E p
  | .romEXTC3 p => payloadFits 0x9F p
  | .romRDCC4 p => payloadFits 0xA0 p
  | .romWCVS p => payloadFits 0xA2 p
  | .romACON1 p => payloadFits 0xB0 p
  | .romACOF1 p => payloadFits 0xB1 p
  | .romREQEV p => payloadFits 0xB2 p
  | .romARON1 p => payloadFits 0xB3 p
  | .romAROF1 p => payloadFits 0xB4 p
  | .romNEVAL p => payloadFits 0xB5 p
  | .romPNN p => payloadFits 0xB6 p
  | .romASON1 p => payloadFits 0xB8 p
  | .romASOF1 p => payloadFits 0xB9 p
  | .romARSON1 p => payloadFits 0xBD p
  | .romARSOF1 p => payloadFits 0xBE p
  | .romEXTC4 p => payloadFits 0xBF p
  | .romRDCC5 p => payloadFits 0xC0 p
  | .romWCVOA p => payloadFits 0xC1 p
  | .romCABDAT p => payloadFits 0xC2 p
  | .romFCLK p => payloadFits 0xCF p
  | .romACON2 p => payloadFits 0xD0 p
  | .romACOF2 p => payloadFits 0xD1 p
  | .romEVLRN p => payloadFits 0xD2 p
  | .romEVANS p => payloadFits 0xD3 p
  | .romARON2 p => payloadFits 0xD4 p
  | .romAROF2 p => payloadFits 0xD5 p
  | .romASON2 p => payloadFits 0xD8 p
  | .romASOF2 p => payloadFits 0xD9 p
  | .romARSON2 p => payloadFits 0xDD p
  | .romARSOF2 p => payloadFits 0xDE p
  | .romEXTC5 p => payloadFits 0xDF p
  | .romRDCC6 p => payloadFits 0xE0 p
  | .romPLOC p => payloadFits 0xE1 p
  | .romNAME p => payloadFits 0xE2 p
  | .romSTAT p => payloadFits 0xE3 p
  | .romPARAMS p => payloadFits 0xEF p
  | .romACON3 p => payloadFits 0xF0 p
  | .romACOF3 p => payloadFits 0xF1 p
  | .romENRSP p => payloadFits 0xF2 p
  | .romARON3 p => payloadFits 0xF3 p
  | .romAROF3 p => payloadFits 0xF4 p
  | .romEVLRNI p => payloadFits 0xF5 p
  | .romACDAT p => payloadFits 0xF6 p
  | .romARDAT p => payloadFits 0xF7 p
  | .romASON3 p => payloadFits 0xF8 p
  | .romASOF3 p => payloadFits 0xF9 p
  | .romDDES p => payloadFits 0xFA p
  | .romDDRS p => payloadFits 0xFB p
  | .romARSON3 p => payloadFits 0xFD p
  | .romARSOF3 p => payloadFits 0xFE p
  | .romEXTC6 p => payloadFits 0xFF p

end Instr
end Sys2Proof
end

