-- ==== Sys2Proof/Decode.lean ====
section
/-! DEFINITION. From the bytes of a presented transaction to an instruction, and back. The spec gives the operation
codes (30_encoding.md R70), the opcode values of the ROM (R71, R114, G3) and the widths of the operands (10_state.md R23)
and no layout of an operand bundle in bytes: the layout is the model's DESIGN CHOICE (log 1). Byte 0 is the row's word as
the table numbers it; byte 1, the page, tells apart rows to which the table gives one word (0: an operation code, or
the opcode of a ROM row whose word no other row has; 1: the ROM rows whose word an operation code or a row of R114 also
has; 2: rows without a word of their own, numbered in table order). The operands follow in R23's order:
a field of at most 8 bits in one byte, 16 bits in two (big-endian, R35), `omitted` as 0 and a present value after a 1, a byte
sequence as a 1 before each byte and a 0 at its end, a message as its binary form (R55), a frame as header, rtr, message
or 0. Bytes after the bundle are lanes the operation does not read. -/

namespace Sys2Proof

/-- Why the bytes of a transaction are no instruction. -/
inductive Reject where
  /-- The bundle ends before its last field. -/
  | truncated
  /-- A field holds a value wider than its port (R23). -/
  | fieldTooWide
  /-- A marker byte is neither 0 nor 1. -/
  | badMarker
  /-- Bytes 0 and 1 name no row of the table. -/
  | noSuchRow
  /-- HDR.DEC with more than two bytes (R93, D6). -/
  | operandTooLong
  /-- A module name with a byte of 0x80 or above (R154, D12). -/
  | nameNotAscii
deriving DecidableEq, Repr

/-- A reader takes the bytes that are left and gives a value and what is left after it, or a reason to reject. -/
abbrev Reader (α : Type) := List Byte → Except Reject (α × List Byte)

namespace Reader

/-- The reader that reads nothing. -/
def done {α : Type} (a : α) : Reader α := fun bs => .ok (a, bs)

/-- The reader that rejects. -/
def reject {α : Type} (e : Reject) : Reader α := fun _ => .error e

/-- One reader after another. -/
def andThen {α β : Type} (r : Reader α) (k : α → Reader β) : Reader β := fun bs =>
  match r bs with
  | .ok (a, rest) => k a rest
  | .error e => .error e

/-- A byte. -/
def byte : Reader Byte
  | [] => .error .truncated
  | b :: rest => .ok (b, rest)

/-- A field of `n` bits in one byte. -/
def narrow (n : Nat) : Reader (BitVec n) :=
  andThen byte fun b => if b.toNat < 2 ^ n then done (b.setWidth n) else reject .fieldTooWide

/-- A marker: 0 or 1. -/
def marker : Reader Bool :=
  andThen byte fun b => if b = 0 then done false else if b = 1 then done true else reject .badMarker

/-- A 16-bit field, high byte first (R35). -/
def word16 : Reader (BitVec 16) := andThen byte fun hi => andThen byte fun lo => done (Bits.ofBe16 hi lo)

/-- An 11-bit field in two bytes, high byte first (R54). -/
def word11 : Reader (BitVec 11) :=
  andThen word16 fun w => if w.toNat < 2 ^ 11 then done (w.setWidth 11) else reject .fieldTooWide

/-- Exactly `n` bytes. -/
def bytes : Nat → Reader (List Byte)
  | 0 => done []
  | n + 1 => andThen byte fun b => andThen (bytes n) fun bs => done (b :: bs)

/-- A byte sequence of any length: a 1 before each byte, a 0 at the end. -/
def seq : Reader (List Byte)
  | [] => .error .truncated
  | [m] => if m = 0 then .ok ([], []) else if m = 1 then .error .truncated else .error .badMarker
  | m :: b :: rest =>
    if m = 0 then .ok ([], b :: rest)
    else if m = 1 then
      match seq rest with
      | .ok (bs, left) => .ok (b :: bs, left)
      | .error e => .error e
    else .error .badMarker

/-- A value or `omitted`. -/
def opt {α : Type} (r : Reader α) : Reader (Option α) :=
  andThen marker fun present => if present then andThen r fun a => done (some a) else done none

/-- A header: its three fields (R10). -/
def header : Reader Header :=
  andThen (narrow 2) fun major => andThen (narrow 2) fun minor => andThen (narrow 7) fun sid =>
    done { major := major, minor := minor, sid := sid }

/-- A message in its binary form: the opcode byte tells the length (R55, R56). -/
def message : Reader Message :=
  andThen byte fun op => andThen (bytes (Bits.payloadLen op)) fun p => done { op := op, payload := p }

/-- A frame (R14). -/
def frame : Reader Frame :=
  andThen header fun h => andThen marker fun rtr => andThen (opt message) fun m =>
    done { header := h, message := m, rtr := rtr }

/-- The operand of HDR.DEC: at most two bytes (R93, D6). -/
def shortSeq : Reader (List Byte) :=
  andThen seq fun bs => if bs.length ≤ 2 then done bs else reject .operandTooLong

/-- A module name: ASCII bytes (R154, D12). -/
def name : Reader (List Byte) :=
  andThen seq fun bs => if Instr.nameOk bs then done bs else reject .nameNotAscii

/-- The fields of an engine report after its opcode (R151). -/
def engine (mk : Byte → BitVec 16 → Byte → BitVec 1 → Option Byte → Option Byte → Option Byte → Instr) : Reader Instr :=
  andThen byte fun session => andThen word16 fun addr => andThen byte fun speed => andThen (narrow 1) fun dir =>
    andThen (opt byte) fun f1 => andThen (opt byte) fun f2 => andThen (opt byte) fun f3 =>
      done (mk session addr speed dir f1 f2 f3)

/-- The fields of a command-station report after its opcode (R153). -/
def station (mk : BitVec 16 → Byte → Byte → Byte → Byte → Option Byte → Instr) : Reader Instr :=
  andThen word16 fun node => andThen byte fun cs => andThen byte fun flags => andThen byte fun majorRev =>
    andThen byte fun minorRev => andThen (opt byte) fun build => done (mk node cs flags majorRev minorRev build)

/-- Two 16-bit numbers: node and event (R152). -/
def nodeEvent (mk : BitVec 16 → BitVec 16 → Instr) : Reader Instr :=
  andThen word16 fun node => andThen word16 fun event => done (mk node event)

end Reader

/-- The ROM rows of the default catalog with 0 payload bytes (R71, G3). -/
def romRows0 : List (Byte × (List Byte → Instr)) := [
  (0x00, .romACK), (0x01, .romNAK), (0x02, .romHLT), (0x03, .romBON), (0x04, .romTOF),
  (0x05, .romTON), (0x06, .romESTOP), (0x07, .romARST), (0x08, .romRTOF), (0x09, .romRTON),
  (0x0A, .romRESTP), (0x0C, .romRSTAT), (0x0D, .romQNN), (0x10, .romRQNP), (0x11, .romRQMN)]

/-- The ROM rows of the default catalog with 1 payload byte (R71, G3). -/
def romRows1 : List (Byte × (List Byte → Instr)) := [
  (0x21, .romKLOC), (0x22, .romQLOC), (0x23, .romDKEEP), (0x30, .romDBG1), (0x3F, .romEXTC)]

/-- The ROM rows of the default catalog with 2 payload bytes (R71, G3). -/
def romRows2 : List (Byte × (List Byte → Instr)) := [
  (0x40, .romRLOC), (0x41, .romQCON), (0x42, .romSNN), (0x43, .romALOC), (0x44, .romSTMOD),
  (0x45, .romPCON), (0x46, .romKCON), (0x47, .romDSPD), (0x48, .romDFLG), (0x49, .romDFNON),
  (0x4A, .romDFNOF), (0x4C, .romSSTAT), (0x4F, .romNNRSM), (0x50, .romRQNN), (0x51, .romNNREL),
  (0x52, .romNNACK), (0x53, .romNNLRN), (0x54, .romNNULN), (0x55, .romNNCLR), (0x56, .romNNEVN),
  (0x57, .romNERD), (0x58, .romRQEVN), (0x59, .romWRACK), (0x5A, .romRQDAT), (0x5B, .romRQDDS),
  (0x5C, .romBOOTM), (0x5D, .romENUM), (0x5E, .romNNRST), (0x5F, .romEXTC1)]

/-- The ROM rows of the default catalog with 3 payload bytes (R71, G3). -/
def romRows3 : List (Byte × (List Byte → Instr)) := [
  (0x60, .romDFUN), (0x61, .romGLOC), (0x63, .romERR), (0x6F, .romCMDERR), (0x70, .romEVNLF),
  (0x71, .romNVRD), (0x72, .romNENRD), (0x73, .romRQNPN), (0x74, .romNUMEV), (0x75, .romCANID),
  (0x7F, .romEXTC2)]

/-- The ROM rows of the default catalog with 4 payload bytes (R71, G3). -/
def romRows4 : List (Byte × (List Byte → Instr)) := [
  (0x80, .romRDCC3), (0x82, .romWCVO), (0x83, .romWCVB), (0x84, .romQCVS), (0x85, .romPCVS),
  (0x90, .romACON), (0x91, .romACOF), (0x92, .romAREQ), (0x93, .romARON), (0x94, .romAROF),
  (0x95, .romEVULN), (0x96, .romNVSET), (0x97, .romNVANS), (0x98, .romASON), (0x99, .romASOF),
  (0x9A, .romASRQ), (0x9B, .romPARAN), (0x9C, .romREVAL), (0x9D, .romARSON), (0x9E, .romARSOF),
  (0x9F, .romEXTC3)]

/-- The ROM rows of the default catalog with 5 payload bytes (R71, G3). -/
def romRows5 : List (Byte × (List Byte → Instr)) := [
  (0xA0, .romRDCC4), (0xA2, .romWCVS), (0xB0, .romACON1), (0xB1, .romACOF1), (0xB2, .romREQEV),
  (0xB3, .romARON1), (0xB4, .romAROF1), (0xB5, .romNEVAL), (0xB6, .romPNN), (0xB8, .romASON1),
  (0xB9, .romASOF1), (0xBD, .romARSON1), (0xBE, .romARSOF1), (0xBF, .romEXTC4)]

/-- The ROM rows of the default catalog with 6 payload bytes (R71, G3). -/
def romRows6 : List (Byte × (List Byte → Instr)) := [
  (0xC0, .romRDCC5), (0xC1, .romWCVOA), (0xC2, .romCABDAT), (0xCF, .romFCLK), (0xD0, .romACON2),
  (0xD1, .romACOF2), (0xD2, .romEVLRN), (0xD3, .romEVANS), (0xD4, .romARON2), (0xD5, .romAROF2),
  (0xD8, .romASON2), (0xD9, .romASOF2), (0xDD, .romARSON2), (0xDE, .romARSOF2), (0xDF, .romEXTC5)]

/-- The ROM rows of the default catalog with 7 payload bytes (R71, G3). -/
def romRows7 : List (Byte × (List Byte → Instr)) := [
  (0xE0, .romRDCC6), (0xE1, .romPLOC), (0xE2, .romNAME), (0xE3, .romSTAT), (0xEF, .romPARAMS),
  (0xF0, .romACON3), (0xF1, .romACOF3), (0xF2, .romENRSP), (0xF3, .romARON3), (0xF4, .romAROF3),
  (0xF5, .romEVLRNI), (0xF6, .romACDAT), (0xF7, .romARDAT), (0xF8, .romASON3), (0xF9, .romASOF3),
  (0xFA, .romDDES), (0xFB, .romDDRS), (0xFD, .romARSON3), (0xFE, .romARSOF3), (0xFF, .romEXTC6)]

/-- The 130 ROM rows of the default catalog: address and constructor (R71, G3). -/
def romRows : List (Byte × (List Byte → Instr)) :=
  romRows0 ++ romRows1 ++ romRows2 ++ romRows3 ++ romRows4 ++ romRows5 ++ romRows6 ++ romRows7

/-- The row at an address, if the default catalog has one. -/
def romRowAt (v : Byte) : List (Byte × (List Byte → Instr)) → Option (List Byte → Instr)
  | [] => none
  | e :: rest => if e.1 = v then some e.2 else romRowAt v rest

/-- The word of the ROM row is also the word of an operation code (R70) or of an entry of R114. -/
def sharedWord (v : Byte) : Bool := v.toNat < 0x20 || v == 0x23#8 || v == 0x40#8

/-- The page that holds the ROM row at an address. -/
def romPage (v : Byte) : Byte := if sharedWord v then 1 else 0

open Reader in
/-- The operand bundle of an operation code (R23, R70). -/
def readOperation (code : Nat) : Reader Instr :=
  match code with
  | 0x00 => andThen (narrow 2) fun a => andThen (narrow 2) fun b => done (.priPack a b)
  | 0x01 => andThen byte fun b => done (.priUnpack b)
  | 0x02 => andThen (narrow 2) fun a => andThen (narrow 2) fun b => andThen word16 fun s => done (.hdrEnc a b s)
  | 0x03 => andThen shortSeq fun bs => done (.hdrDec bs)
  | 0x04 => andThen header fun h => done (.hdrReg h)
  | 0x05 => andThen header fun h => done (.hdrCanid h)
  | 0x06 => andThen header fun h => done (.hdrAscii h)
  | 0x07 => andThen header fun h1 => andThen header fun h2 => done (.hdrEq h1 h2)
  | 0x08 => andThen byte fun v => done (.catLen v)
  | 0x09 => andThen byte fun v => done (.catLookup v)
  | 0x0A => done .catCheck
  | 0x0B => andThen byte fun v => andThen (opt seq) fun p => done (.msgNew v p)
  | 0x0C => andThen seq fun bs => done (.msgDec bs)
  | 0x0D => andThen message fun m => done (.msgHex m)
  | 0x0E => andThen message fun m1 => andThen message fun m2 => done (.msgEq m1 m2)
  | 0x0F => done .unused0F
  | 0x10 => andThen byte fun v => engine (.pkEng v)
  | 0x11 => andThen byte fun v => nodeEvent (.pkAlev v)
  | 0x12 => andThen byte fun v => station (.pkCsrpt v)
  | 0x13 => andThen byte fun v => andThen name fun n => done (.pkName v n)
  | 0x14 => andThen byte fun v => andThen word16 fun n => done (.pkU16 v n)
  | 0x15 => andThen byte fun v => andThen byte fun n => done (.pkU8 v n)
  | 0x16 => done .unused16
  | 0x17 => done .unused17
  | 0x18 => andThen frame fun f => done (.frmEnc f)
  | 0x19 => andThen seq fun buf => done (.frmScan buf)
  | 0x1A => andThen frame fun f1 => andThen frame fun f2 => done (.frmEq f1 f2)
  | 0x1B => done .unused1B
  | 0x1C => done .unused1C
  | 0x1D => done .unused1D
  | 0x1E => done .unused1E
  | 0x1F => done .unused1F
  | _ => reject .noSuchRow

open Reader in
/-- The payload of a ROM row: `v >> 5` bytes (R55). -/
def readRomRow (v : Byte) : Reader Instr :=
  match romRowAt v romRows with
  | some mk => andThen (bytes (Bits.payloadLen v)) fun p => done (mk p)
  | none => reject .noSuchRow

open Reader in
/-- Page 2: the rows without a word of their own, numbered in the table's order. -/
def readUnnumbered (row : Nat) : Reader Instr :=
  match row with
  | 0 => andThen byte fun b => done (.formatPri b)
  | 1 => andThen byte fun hb => andThen byte fun lb => done (.formatHdr hb lb)
  | 2 => andThen word11 fun id => done (.formatCanid id)
  | 3 => andThen seq fun bs => done (.formatMsg bs)
  | 4 => andThen seq fun buf => done (.formatWire buf)
  | 5 => nodeEvent .entryAcon
  | 6 => andThen (narrow 5) fun idx => engine (.entryEngineReport idx)
  | 7 => andThen (narrow 5) fun idx => station (.entryCommandStationReport idx)
  | 8 => andThen (narrow 5) fun idx => andThen name fun n => done (.entryModuleName idx n)
  | 9 => andThen (opt seq) fun p => done (.entryCmderr p)
  | 10 => andThen (opt seq) fun p => done (.entryErr p)
  | _ => reject .noSuchRow

open Reader in
/-- Bytes 0 and 1 of a transaction select the row. -/
def readRow (word page : Byte) : Reader Instr :=
  if page = 0 then
    if word.toNat < 0x20 then readOperation word.toNat
    else if word = 0x23 then andThen byte fun session => done (.entrySessionKeepAlive session)
    else if word = 0x40 then andThen word16 fun addr => done (.entryRequestEngineSession addr)
    else readRomRow word
  else if page = 1 then
    if sharedWord word then readRomRow word else reject .noSuchRow
  else if page = 2 then readUnnumbered word.toNat
  else reject .noSuchRow

/-- The decoder: total on any bytes. It gives the instruction and the bytes after its operand bundle. -/
def decode : Reader Instr :=
  Reader.andThen Reader.byte fun word => Reader.andThen Reader.byte fun page => readRow word page

/-! The encoder, from the same tables. -/

namespace Writer

/-- A field of at most 8 bits in one byte. -/
def narrow {n : Nat} (x : BitVec n) : List Byte := [x.setWidth 8]

/-- A marker. -/
def marker (b : Bool) : List Byte := [if b then 1 else 0]

/-- A byte sequence: a 1 before each byte, a 0 at the end. -/
def seq : List Byte → List Byte
  | [] => [0]
  | b :: bs => 1 :: b :: seq bs

/-- A value or `omitted`. -/
def opt {α : Type} (w : α → List Byte) : Option α → List Byte
  | none => [0]
  | some a => 1 :: w a

/-- A byte. -/
def byte (b : Byte) : List Byte := [b]

/-- A header. -/
def header (h : Header) : List Byte := narrow h.major ++ narrow h.minor ++ narrow h.sid

/-- A frame. -/
def frame (f : Frame) : List Byte := header f.header ++ marker f.rtr ++ opt Message.bytes f.message

/-- The fields of an engine report after its opcode. -/
def engine (session : Byte) (addr : BitVec 16) (speed : Byte) (dir : BitVec 1) (f1 f2 f3 : Option Byte) : List Byte :=
  [session] ++ Bits.be16 addr ++ [speed] ++ narrow dir ++ opt byte f1 ++ opt byte f2 ++ opt byte f3

/-- The fields of a command-station report after its opcode. -/
def station (node : BitVec 16) (cs flags majorRev minorRev : Byte) (build : Option Byte) : List Byte :=
  Bits.be16 node ++ [cs, flags, majorRev, minorRev] ++ opt byte build

/-- An operation code on page 0, then its operands. -/
def operation (code : Byte) (operands : List Byte) : List Byte := [code, 0] ++ operands

/-- A ROM row on its page, then its payload. -/
def romRow (v : Byte) (payload : List Byte) : List Byte := [v, romPage v] ++ payload

/-- A row of page 2, then its operands. -/
def unnumbered (row : Byte) (operands : List Byte) : List Byte := [row, 2] ++ operands

end Writer

open Writer in
/-- The encoder: the bytes of the transaction that presents a well-formed instruction. -/
def encode : Instr → List Byte
  | .priPack a b => operation 0x00 (narrow a ++ narrow b)
  | .priUnpack b => operation 0x01 [b]
  | .hdrEnc a b s => operation 0x02 (narrow a ++ narrow b ++ Bits.be16 s)
  | .hdrDec bs => operation 0x03 (seq bs)
  | .hdrReg h => operation 0x04 (header h)
  | .hdrCanid h => operation 0x05 (header h)
  | .hdrAscii h => operation 0x06 (header h)
  | .hdrEq h1 h2 => operation 0x07 (header h1 ++ header h2)
  | .catLen v => operation 0x08 [v]
  | .catLookup v => operation 0x09 [v]
  | .catCheck => operation 0x0A []
  | .msgNew v p => operation 0x0B ([v] ++ opt seq p)
  | .msgDec bs => operation 0x0C (seq bs)
  | .msgHex m => operation 0x0D m.bytes
  | .msgEq m1 m2 => operation 0x0E (m1.bytes ++ m2.bytes)
  | .pkEng v session addr speed dir f1 f2 f3 => operation 0x10 ([v] ++ engine session addr speed dir f1 f2 f3)
  | .pkAlev v node event => operation 0x11 ([v] ++ Bits.be16 node ++ Bits.be16 event)
  | .pkCsrpt v node cs flags ma mi build => operation 0x12 ([v] ++ station node cs flags ma mi build)
  | .pkName v n => operation 0x13 ([v] ++ seq n)
  | .pkU16 v n => operation 0x14 ([v] ++ Bits.be16 n)
  | .pkU8 v n => operation 0x15 [v, n]
  | .frmEnc f => operation 0x18 (frame f)
  | .frmScan buf => operation 0x19 (seq buf)
  | .frmEq f1 f2 => operation 0x1A (frame f1 ++ frame f2)
  | .unused0F => operation 0x0F []
  | .unused16 => operation 0x16 []
  | .unused17 => operation 0x17 []
  | .unused1B => operation 0x1B []
  | .unused1C => operation 0x1C []
  | .unused1D => operation 0x1D []
  | .unused1E => operation 0x1E []
  | .unused1F => operation 0x1F []
  | .formatPri b => unnumbered 0 [b]
  | .formatHdr hb lb => unnumbered 1 [hb, lb]
  | .formatCanid id => unnumbered 2 (Bits.be16 (id.setWidth 16))
  | .formatMsg bs => unnumbered 3 (seq bs)
  | .formatWire buf => unnumbered 4 (seq buf)
  | .entrySessionKeepAlive session => operation 0x23 [session]
  | .entryRequestEngineSession addr => operation 0x40 (Bits.be16 addr)
  | .entryAcon node event => unnumbered 5 (Bits.be16 node ++ Bits.be16 event)
  | .entryEngineReport idx session addr speed dir f1 f2 f3 => unnumbered 6 (narrow idx ++ engine session addr speed dir f1 f2 f3)
  | .entryCommandStationReport idx node cs flags ma mi build => unnumbered 7 (narrow idx ++ station node cs flags ma mi build)
  | .entryModuleName idx n => unnumbered 8 (narrow idx ++ seq n)
  | .entryCmderr p => unnumbered 9 (opt seq p)
  | .entryErr p => unnumbered 10 (opt seq p)
  | .romACK p => romRow 0x00 p
  | .romNAK p => romRow 0x01 p
  | .romHLT p => romRow 0x02 p
  | .romBON p => romRow 0x03 p
  | .romTOF p => romRow 0x04 p
  | .romTON p => romRow 0x05 p
  | .romESTOP p => romRow 0x06 p
  | .romARST p => romRow 0x07 p
  | .romRTOF p => romRow 0x08 p
  | .romRTON p => romRow 0x09 p
  | .romRESTP p => romRow 0x0A p
  | .romRSTAT p => romRow 0x0C p
  | .romQNN p => romRow 0x0D p
  | .romRQNP p => romRow 0x10 p
  | .romRQMN p => romRow 0x11 p
  | .romKLOC p => romRow 0x21 p
  | .romQLOC p => romRow 0x22 p
  | .romDKEEP p => romRow 0x23 p
  | .romDBG1 p => romRow 0x30 p
  | .romEXTC p => romRow 0x3F p
  | .romRLOC p => romRow 0x40 p
  | .romQCON p => romRow 0x41 p
  | .romSNN p => romRow 0x42 p
  | .romALOC p => romRow 0x43 p
  | .romSTMOD p => romRow 0x44 p
  | .romPCON p => romRow 0x45 p
  | .romKCON p => romRow 0x46 p
  | .romDSPD p => romRow 0x47 p
  | .romDFLG p => romRow 0x48 p
  | .romDFNON p => romRow 0x49 p
  | .romDFNOF p => romRow 0x4A p
  | .romSSTAT p => romRow 0x4C p
  | .romNNRSM p => romRow 0x4F p
  | .romRQNN p => romRow 0x50 p
  | .romNNREL p => romRow 0x51 p
  | .romNNACK p => romRow 0x52 p
  | .romNNLRN p => romRow 0x53 p
  | .romNNULN p => romRow 0x54 p
  | .romNNCLR p => romRow 0x55 p
  | .romNNEVN p => romRow 0x56 p
  | .romNERD p => romRow 0x57 p
  | .romRQEVN p => romRow 0x58 p
  | .romWRACK p => romRow 0x59 p
  | .romRQDAT p => romRow 0x5A p
  | .romRQDDS p => romRow 0x5B p
  | .romBOOTM p => romRow 0x5C p
  | .romENUM p => romRow 0x5D p
  | .romNNRST p => romRow 0x5E p
  | .romEXTC1 p => romRow 0x5F p
  | .romDFUN p => romRow 0x60 p
  | .romGLOC p => romRow 0x61 p
  | .romERR p => romRow 0x63 p
  | .romCMDERR p => romRow 0x6F p
  | .romEVNLF p => romRow 0x70 p
  | .romNVRD p => romRow 0x71 p
  | .romNENRD p => romRow 0x72 p
  | .romRQNPN p => romRow 0x73 p
  | .romNUMEV p => romRow 0x74 p
  | .romCANID p => romRow 0x75 p
  | .romEXTC2 p => romRow 0x7F p
  | .romRDCC3 p => romRow 0x80 p
  | .romWCVO p => romRow 0x82 p
  | .romWCVB p => romRow 0x83 p
  | .romQCVS p => romRow 0x84 p
  | .romPCVS p => romRow 0x85 p
  | .romACON p => romRow 0x90 p
  | .romACOF p => romRow 0x91 p
  | .romAREQ p => romRow 0x92 p
  | .romARON p => romRow 0x93 p
  | .romAROF p => romRow 0x94 p
  | .romEVULN p => romRow 0x95 p
  | .romNVSET p => romRow 0x96 p
  | .romNVANS p => romRow 0x97 p
  | .romASON p => romRow 0x98 p
  | .romASOF p => romRow 0x99 p
  | .romASRQ p => romRow 0x9A p
  | .romPARAN p => romRow 0x9B p
  | .romREVAL p => romRow 0x9C p
  | .romARSON p => romRow 0x9D p
  | .romARSOF p => romRow 0x9E p
  | .romEXTC3 p => romRow 0x9F p
  | .romRDCC4 p => romRow 0xA0 p
  | .romWCVS p => romRow 0xA2 p
  | .romACON1 p => romRow 0xB0 p
  | .romACOF1 p => romRow 0xB1 p
  | .romREQEV p => romRow 0xB2 p
  | .romARON1 p => romRow 0xB3 p
  | .romAROF1 p => romRow 0xB4 p
  | .romNEVAL p => romRow 0xB5 p
  | .romPNN p => romRow 0xB6 p
  | .romASON1 p => romRow 0xB8 p
  | .romASOF1 p => romRow 0xB9 p
  | .romARSON1 p => romRow 0xBD p
  | .romARSOF1 p => romRow 0xBE p
  | .romEXTC4 p => romRow 0xBF p
  | .romRDCC5 p => romRow 0xC0 p
  | .romWCVOA p => romRow 0xC1 p
  | .romCABDAT p => romRow 0xC2 p
  | .romFCLK p => romRow 0xCF p
  | .romACON2 p => romRow 0xD0 p
  | .romACOF2 p => romRow 0xD1 p
  | .romEVLRN p => romRow 0xD2 p
  | .romEVANS p => romRow 0xD3 p
  | .romARON2 p => romRow 0xD4 p
  | .romAROF2 p => romRow 0xD5 p
  | .romASON2 p => romRow 0xD8 p
  | .romASOF2 p => romRow 0xD9 p
  | .romARSON2 p => romRow 0xDD p
  | .romARSOF2 p => romRow 0xDE p
  | .romEXTC5 p => romRow 0xDF p
  | .romRDCC6 p => romRow 0xE0 p
  | .romPLOC p => romRow 0xE1 p
  | .romNAME p => romRow 0xE2 p
  | .romSTAT p => romRow 0xE3 p
  | .romPARAMS p => romRow 0xEF p
  | .romACON3 p => romRow 0xF0 p
  | .romACOF3 p => romRow 0xF1 p
  | .romENRSP p => romRow 0xF2 p
  | .romARON3 p => romRow 0xF3 p
  | .romAROF3 p => romRow 0xF4 p
  | .romEVLRNI p => romRow 0xF5 p
  | .romACDAT p => romRow 0xF6 p
  | .romARDAT p => romRow 0xF7 p
  | .romASON3 p => romRow 0xF8 p
  | .romASOF3 p => romRow 0xF9 p
  | .romDDES p => romRow 0xFA p
  | .romDDRS p => romRow 0xFB p
  | .romARSON3 p => romRow 0xFD p
  | .romARSOF3 p => romRow 0xFE p
  | .romEXTC6 p => romRow 0xFF p

/-- The low `n` bytes of a number, least significant first: the bytes of an instruction as the table numbers its bits. -/
def bytesOfWord : Nat → Nat → List Byte
  | 0, _ => []
  | n + 1, w => BitVec.ofNat 8 w :: bytesOfWord n (w / 256)

/-- The bytes above a row's own bits that a word is filled up to with zeros: enough for the longest bundle of zeros. -/
abbrev zeroLanes : Nat := 16

/-- The transaction whose bits are `w` (`nbits` of them), zeros above (log 1). -/
def transactionOfWord (nbits w : Nat) : List Byte :=
  bytesOfWord ((nbits + 7) / 8) (w % 2 ^ nbits) ++ List.replicate zeroLanes 0

/-- The instruction the decoder reads from a row's word. -/
def decodeTableWord (nbits w : Nat) : Option Instr :=
  match decode (transactionOfWord nbits w) with
  | .ok (i, _) => some i
  | .error _ => none

end Sys2Proof
end

