-- ==== Sys2Proof/Machine/Flags.lean ====
section
/-! DEFINITION. The core has no sticky flag and no condition code (10_state.md R19). Its two one-operation indications are the
result code `err` (60_exceptions.md R210, R211) and the `rtr` bit of a frame. -/

namespace Sys2Proof
namespace Machine

/-- The five error kinds; the list is closed (R210). -/
inductive ErrKind where
  /-- HDR.ENC: `sid_in > 127`. -/
  | invalidIdentifier
  /-- HDR.DEC: fewer than two bytes. -/
  | insufficientData
  /-- MSG.DEC: no bytes. -/
  | emptyInput
  /-- CAT.LOOKUP, MSG.DEC: the ROM location is empty. -/
  | unknownOpcode
  /-- MSG.NEW, MSG.DEC, PK: the payload length is not `v >> 5`. -/
  | payloadLengthMismatch
deriving DecidableEq, Repr

/-- What the `err` port shows when an operation has completed (R211). -/
inductive Err where
  | ok
  | kind (k : ErrKind)
deriving DecidableEq, Repr

/-- The 3-bit code of an error kind (R211). -/
def errKindCode : ErrKind → BitVec 3
  | .invalidIdentifier => 1
  | .insufficientData => 2
  | .emptyInput => 3
  | .unknownOpcode => 4
  | .payloadLengthMismatch => 5

/-- The 3-bit code on the `err` port (R211). -/
def errCode : Err → BitVec 3
  | .ok => 0
  | .kind k => errKindCode k

/-- The mode character of a frame: `'R'` when `rtr`, else `'N'` (R19, R57, R171). -/
def modeChar (rtr : Bool) : Byte := if rtr then Bits.charR else Bits.charN

/-- The `rtr` bit a mode character selects (R57, R184), none for any other byte. -/
def rtrOfMode (c : Byte) : Option Bool :=
  if c = Bits.charN then some false else if c = Bits.charR then some true else none

end Machine
end Sys2Proof
end

