-- ==== Sys2Proof/Machine/Scanner.lean ====
section
/-! DEFINITION. The scanner's working registers (10_state.md R17) and its span sideband (46_frame_scanner.md R190). -/

namespace Sys2Proof
namespace Machine

/-- The nine states of the tokenizer (R17, R184). -/
inductive ScnState where
  | idle
  | colon
  | h0
  | h1
  | h2
  | h3
  | mode
  | d1
  | dn
deriving DecidableEq, Repr

/-- The working registers (R17). -/
structure Scanner where
  state : ScnState
  pos   : Nat
  hn0   : Nibble
  hn1   : Nibble
  hn2   : Nibble
  hn3   : Nibble
  rtr   : Bool
  dig   : List Nibble
  start : Nat
  out   : List Frame
deriving DecidableEq, Repr

/-- Why a shape match gives no frame (R188, R217). -/
inductive DropReason where
  /-- An odd number of message digits; never an `err` value (R220). -/
  | oddHexLength
  /-- The message codec's error (R133). -/
  | codec (k : ErrKind)
deriving DecidableEq, Repr

/-- The number of a drop reason on the sideband (R211, R220). -/
def dropCode : DropReason → BitVec 3
  | .oddHexLength => 6
  | .codec k => errKindCode k

/-- The outcome of a shape match (R190). -/
inductive SpanOutcome where
  | frame
  | drop (r : DropReason)
deriving DecidableEq, Repr

/-- A triple of the span sideband (R190): the match is bytes `start` to `stop - 1`. -/
structure Span where
  start   : Nat
  stop    : Nat
  outcome : SpanOutcome
deriving DecidableEq, Repr

/-- The registers at reset and at the start of every scan, which "begin in the same state" (R17, R24): IDLE, position 0, no
digits, no frames; `hn`, `rtr` and `start` unspecified, so they are free values (U10; log 9). -/
def Scanner.cleared : Scanner where
  state := .idle
  pos   := 0
  hn0   := Config.freeNibble 0
  hn1   := Config.freeNibble 1
  hn2   := Config.freeNibble 2
  hn3   := Config.freeNibble 3
  rtr   := Config.freeRtr
  dig   := []
  start := Config.freeStart
  out   := []

end Machine
end Sys2Proof
end

