-- ==== Sys2Proof/Machine/State.lean ====
section
/-! DEFINITION. The state of the machine (10_state.md sections 2 to 4): the opcode ROM, the scanner's registers, the
serializer's index and the ports. Plain data. -/

namespace Sys2Proof
namespace Machine

/-- What stands on the `res` port after an operation (R23, R26): one constructor for each kind of result bundle. -/
inductive Result where
  /-- PRI.PACK. -/
  | pri (b : Byte)
  /-- PRI.UNPACK. -/
  | priorities (major minor : BitVec 2)
  /-- HDR.ENC, HDR.DEC. -/
  | header (h : Header)
  /-- HDR.REG: the register form. -/
  | packed (highByte lowByte : Byte)
  /-- HDR.CANID. -/
  | canId (top low : Byte)
  /-- HDR.ASCII, MSG.HEX, FRM.ENC. -/
  | ascii (bytes : List Byte)
  /-- HDR.EQ, CAT.CHECK, MSG.EQ, FRM.EQ. -/
  | bit (b : Bool)
  /-- CAT.LEN. -/
  | count (n : BitVec 3)
  /-- CAT.LOOKUP. -/
  | descriptor (d : Descriptor)
  /-- MSG.NEW, MSG.DEC, PK. -/
  | message (m : Message)
  /-- FRM.SCAN. -/
  | frames (fs : List Frame)
deriving DecidableEq, Repr

/-- What stops the machine for good: nothing does. The spec has error kinds, which are results (R213), and calls "for
`stuck`" none (93_implementation_defined.md part 1), so no meaning raises a fault (log 14). -/
inductive Fault : Type
deriving DecidableEq, Repr

/-- Why the machine gives a transaction no meaning. -/
inductive Refusal where
  /-- Raised by exec's arm of an instruction that has no meaning yet. Safe: the run stops. No arm raises it. -/
  | notModelled (mnemonic : String)
  /-- Raised by step: the presented bytes are no instruction. Safe: the run stops. -/
  | undecodable (r : Reject)
  /-- Raised by the eight unused operation codes: "presenting one is outside the model (a model refuses it)" (R70, U1).
  Safe: the run stops. -/
  | noOperation (code : BitVec 5)
  /-- Raised by HDR.DEC on more than two bytes: "a model must refuse" (R93, U2). Safe: the run stops. -/
  | operandTooLong
  /-- Raised by MSG.NEW and the packers when the ROM has no entry at `v`: "a model takes `CATALOG(v) != absent` as a
  precondition and refuses otherwise" (R131, U4). Safe: the run stops. -/
  | opcodeAbsent (v : Byte)
  /-- Raised by PK.NAME and the module-name row on a byte of 0x80 or above: "a model refuses such an operand" (R154, U6).
  Safe: the run stops. -/
  | nameNotAscii
  /-- Raised by the operations that take a Message or a Frame, on an operand that breaks the length invariant: such a value
  "is not a message" (R13). Safe: the run stops. -/
  | notAMessage
  /-- Raised by the rows that name a ROM entry, when not exactly one entry has the name (R74, R116; log 4). Safe: the run
  stops. -/
  | noSuchEntry (name : String)
  /-- Raised by every operation that reads the ROM when CAT.CHECK would answer 0: "this spec gives no meaning to any
  ROM-reading operation over such an image" (R241, U5; log 12). Safe: the run stops. -/
  | romImageInvalid
deriving DecidableEq, Repr

/-- The machine. -/
structure State where
  /-- The opcode ROM (R15): (address, entry) pairs, addresses rising; an unlisted address is an empty location. -/
  rom       : Rom
  /-- The scanner's working registers (R17). -/
  scn       : Scanner
  /-- The serializer's output index (R25). -/
  serIdx    : Nat
  /-- The `op` and `opnd` ports (R22): the transactions the host presents, the first one now. -/
  host      : List (List Byte)
  /-- The `in_byte`, `in_last` ports (R22): the buffer of the last operation, byte by byte. -/
  inStream  : List (Byte × Bool)
  /-- The `res` port (R22, R26): none when it holds no value. -/
  res       : Option Result
  /-- The `err` port (R22): none before an operation completes. -/
  err       : Option Err
  /-- The `frame_out` port (R22): the frames of the last operation, in order. -/
  frameOut  : List Frame
  /-- The `span_out` port (R22, R190): the spans of the last operation, in order. -/
  spanOut   : List Span
  /-- The `out_byte`, `out_last` ports (R22): the output bytes of the last operation, in order. -/
  outStream : List (Byte × Bool)
deriving DecidableEq, Repr

/-- The machine after reset (R24, R240): the ROM holds its contents (DESIGN CHOICE: the default catalog, log 5), the scanner
is cleared, the ports hold no value, nothing is presented. -/
def State.reset : State where
  rom       := Config.defaultCatalog
  scn       := Scanner.cleared
  serIdx    := 0
  host      := []
  inStream  := []
  res       := none
  err       := none
  frameOut  := []
  spanOut   := []
  outStream := []

end Machine
end Sys2Proof
end

