-- ==== Sys2Proof/Machine/Ops.lean ====
section
/-! DEFINITION. The named operations over the ROM and the ports: reading the ROM (20_memory.md R31), completing an operation
with a result (10_state.md R23), raising an error kind (60_exceptions.md R214), streaming bytes (R25). There is no
return from an error (R215). -/

namespace Sys2Proof
namespace Machine

/-- `RomRead(v)` (R31): the entry at `v`, or absent. -/
def romRead : Rom → Byte → Option Descriptor
  | [], _ => none
  | e :: rest, v => if e.1 = v then some e.2 else romRead rest v

/-- `CATALOG(v)` is present. -/
def romPresent (rom : Rom) (v : Byte) : Bool := (romRead rom v).isSome

/-- CAT.CHECK's answer (R119): every entry stores `byte_count = address >> 5`. -/
def romCheck (rom : Rom) : Bool := rom.all fun e => e.2.byteCount == Bits.byteCount e.1

/-- The address of the entry named `name`, if exactly one entry has that name (R116: "the entry named ACON" denotes one
address). -/
def romNamed (rom : Rom) (name : String) : Option Byte :=
  match rom.filter fun e => e.2.name == name with
  | [e] => some e.1
  | _ => none

/-- Addresses strictly rising. -/
def addressesRise : Rom → Bool
  | e1 :: e2 :: rest => decide (e1.1.toNat < e2.1.toNat) && addressesRise (e2 :: rest)
  | _ => true

/-- The canonical form of the ROM's list: addresses strictly rising, so equal contents are equal lists. -/
def romWf (rom : Rom) : Bool := addressesRise rom

/-- The operation ends with result `r` and `err = OK` (R6 `return`, R23). The ports of the operation before it show
nothing any more (R19, R24). -/
def State.complete (r : Result) (s : State) : State :=
  { s with res := some r, err := some .ok, inStream := [], frameOut := [], spanOut := [], outStream := [] }

/-- `raise k` (R214): the operation ends with `err = k` and no result (R26); no state changes, nothing is saved, control
goes nowhere. -/
def State.raise (k : ErrKind) (s : State) : State :=
  { s with res := none, err := some (.kind k), inStream := [], frameOut := [], spanOut := [], outStream := [] }

/-- An operation that is a function of its operands and the ROM (R213): its result, or its error kind. -/
def respond (r : Except ErrKind Result) (s : State) : Host.Outcome State Fault Refusal :=
  match r with
  | .ok v => .next (s.complete v)
  | .error k => .next (s.raise k)

/-- The bytes of a sequence as they stand on a byte port, the last one marked (R22). -/
def beats : List Byte → List (Byte × Bool)
  | [] => []
  | [b] => [(b, true)]
  | b :: rest => (b, false) :: beats rest

/-- One output byte of a streamed serializer (R25): byte `i`, marked when it is the last, and the next index. -/
def serStep (bytes : List Byte) (i : Nat) : Option ((Byte × Bool) × Nat) :=
  match bytes[i]? with
  | none => none
  | some b => if i + 1 = bytes.length then some ((b, true), 0) else some ((b, false), i + 1)

/-- `n` output bytes from index `i` on: what the port shows and the index after it. -/
def serRun (bytes : List Byte) : Nat → Nat → List (Byte × Bool) × Nat
  | 0, i => ([], i)
  | n + 1, i =>
    match serStep bytes i with
    | none => ([], i)
    | some (beat, j) => (beat :: (serRun bytes n j).1, (serRun bytes n j).2)

/-- An operation whose result is ASCII bytes (R25, R34): the sequence is the result, and is put out byte by byte from
index 0. -/
def State.putAscii (bytes : List Byte) (s : State) : State :=
  { s.complete (.ascii bytes) with
    outStream := (serRun bytes bytes.length 0).1
    serIdx := (serRun bytes bytes.length 0).2 }

end Machine
end Sys2Proof
end

