-- ==== Sys2Proof/Machine/Operands.lean ====
section
/-! DEFINITION. The operand forms and the preconditions the spec puts on operands: each precondition that fails is a refusal
(93_implementation_defined.md part 1, `refuse`). -/

namespace Sys2Proof
namespace Machine

/-- A byte that may be `omitted`, then 0x00 (R151, R153). -/
def orZero (b : Option Byte) : Byte := b.getD 0x00

/-- The operation reads the ROM: the image must be one CAT.CHECK accepts (R241). -/
def withRom (s : State) (k : Host.Outcome State Fault Refusal) : Host.Outcome State Fault Refusal :=
  if romCheck s.rom then k else .refused .romImageInvalid

/-- `CATALOG(v)` is present (R131, R150). -/
def withPresent (v : Byte) (s : State) (k : Host.Outcome State Fault Refusal) : Host.Outcome State Fault Refusal :=
  if romPresent s.rom v then k else .refused (.opcodeAbsent v)

/-- The value is a message (R13). -/
def withMessage (m : Message) (k : Host.Outcome State Fault Refusal) : Host.Outcome State Fault Refusal :=
  if m.lengthOk then k else .refused .notAMessage

/-- The message of the frame, if any, is a message (R13, R14). -/
def withFrame (f : Frame) (k : Host.Outcome State Fault Refusal) : Host.Outcome State Fault Refusal :=
  if f.messageOk then k else .refused .notAMessage

/-- The name is ASCII (R154). -/
def withName (name : List Byte) (k : Host.Outcome State Fault Refusal) : Host.Outcome State Fault Refusal :=
  if Instr.nameOk name then k else .refused .nameNotAscii

/-- Exactly one entry of the ROM has the name; `k` gets its address (R74, R116). -/
def withNamed (name : String) (s : State) (k : Byte → Host.Outcome State Fault Refusal) : Host.Outcome State Fault Refusal :=
  match romNamed s.rom name with
  | some v => k v
  | none => .refused (.noSuchEntry name)

end Machine
end Sys2Proof
end

