-- ==== Sys2Proof/Machine/Cat.lean ====
section
/-! DEFINITION. Unit CAT (42_opcode_rom.md). -/

namespace Sys2Proof
namespace Machine

/-- The entry at `v` or UnknownOpcode (R118). -/
def lookupDescriptor (rom : Rom) (v : Byte) : Except ErrKind Descriptor :=
  match romRead rom v with
  | some d => .ok d
  | none => .error .unknownOpcode

/-- CAT.LEN (R111): it does not consult the ROM. -/
def execCatLen (v : Byte) (s : State) : Host.Outcome State Fault Refusal :=
  .next (s.complete (.count (Bits.byteCount v)))

/-- CAT.LOOKUP (R118). -/
def execCatLookup (v : Byte) (s : State) : Host.Outcome State Fault Refusal :=
  withRom s (respond ((lookupDescriptor s.rom v).map .descriptor) s)

/-- CAT.CHECK (R119): it may be used on any image (R242). -/
def execCatCheck (s : State) : Host.Outcome State Fault Refusal :=
  .next (s.complete (.bit (romCheck s.rom)))

end Machine
end Sys2Proof
end

