-- ==== Sys2Proof/Machine/Msg.lean ====
section
/-! DEFINITION. Unit MSG, the message codec (43_message_codec.md). -/

namespace Sys2Proof
namespace Machine

/-- A message of an opcode and a payload, `none` for `omitted` (R131, R132). -/
def newMessage (v : Byte) (payload : Option (List Byte)) : Except ErrKind Message :=
  match payload with
  | none => .ok { op := v, payload := List.replicate (Bits.payloadLen v) 0x00 }
  | some p =>
    if p.length = Bits.payloadLen v then .ok { op := v, payload := p } else .error .payloadLengthMismatch

/-- A message of its binary form (R133); the order of the tests is R216's. -/
def messageOf (rom : Rom) (bs : List Byte) : Except ErrKind Message :=
  match bs with
  | [] => .error .emptyInput
  | v :: payload =>
    if romPresent rom v then
      if payload.length = Bits.payloadLen v then .ok { op := v, payload := payload } else .error .payloadLengthMismatch
    else .error .unknownOpcode

/-- Message equality: opcode and payload bytes (R136). -/
def messageEq (m1 m2 : Message) : Bool := m1.op == m2.op && m1.payload == m2.payload

/-- Put a byte sequence to the message decoder (R133). -/
def decodeMessage (bs : List Byte) (s : State) : Host.Outcome State Fault Refusal :=
  withRom s (respond ((messageOf s.rom bs).map .message) s)

/-- Construct a message at an opcode that must be present (R131). -/
def constructMessage (v : Byte) (payload : Option (List Byte)) (s : State) : Host.Outcome State Fault Refusal :=
  withRom s (withPresent v s (respond ((newMessage v payload).map .message) s))

/-- MSG.NEW (R131, R132). -/
def execMsgNew (v : Byte) (payload : Option (List Byte)) (s : State) : Host.Outcome State Fault Refusal :=
  constructMessage v payload s

/-- MSG.DEC (R133). -/
def execMsgDec (bs : List Byte) (s : State) : Host.Outcome State Fault Refusal := decodeMessage bs s

/-- MSG.HEX (R135): it does not read the ROM. -/
def execMsgHex (m : Message) (s : State) : Host.Outcome State Fault Refusal :=
  withMessage m (.next (s.putAscii (Bits.hexBytes m.bytes)))

/-- MSG.EQ (R136). -/
def execMsgEq (m1 m2 : Message) (s : State) : Host.Outcome State Fault Refusal :=
  withMessage m1 (withMessage m2 (.next (s.complete (.bit (messageEq m1 m2)))))

end Machine
end Sys2Proof
end

