-- ==== Sys2Proof/Machine/Pk.lean ====
section
/-! DEFINITION. Unit PK, the payload packers (44_payload_packers.md): a layout (30_encoding.md R59), then MSG.NEW (R150). -/

namespace Sys2Proof
namespace Machine

/-- The layout of an engine report (R59, R151). -/
def enginePayload (session : Byte) (addr : BitVec 16) (speed : Byte) (dir : BitVec 1) (f1 f2 f3 : Option Byte) : List Byte :=
  [session] ++ Bits.be16 addr ++ [Bits.speedDir dir speed, orZero f1, orZero f2, orZero f3]

/-- The layout of an accessory long event (R59, R152). -/
def eventPayload (node event : BitVec 16) : List Byte := Bits.be16 node ++ Bits.be16 event

/-- The layout of a command-station report (R59, R153). -/
def stationPayload (node : BitVec 16) (cs flags majorRev minorRev : Byte) (build : Option Byte) : List Byte :=
  Bits.be16 node ++ [cs, flags, majorRev, minorRev, orZero build]

/-- The layout of a module name (R59, R154): the first seven bytes, or padded on the left to seven. -/
def namePayload (name : List Byte) : List Byte :=
  if 7 ≤ name.length then name.take 7 else List.replicate (7 - name.length) Config.namePad ++ name

/-- Pack an engine report at `v` (R151). -/
def packEngine (v session : Byte) (addr : BitVec 16) (speed : Byte) (dir : BitVec 1) (f1 f2 f3 : Option Byte) (s : State) :
    Host.Outcome State Fault Refusal :=
  constructMessage v (some (enginePayload session addr speed dir f1 f2 f3)) s

/-- Pack an accessory long event at `v` (R152). -/
def packEvent (v : Byte) (node event : BitVec 16) (s : State) : Host.Outcome State Fault Refusal :=
  constructMessage v (some (eventPayload node event)) s

/-- Pack a command-station report at `v` (R153). -/
def packStation (v : Byte) (node : BitVec 16) (cs flags majorRev minorRev : Byte) (build : Option Byte) (s : State) :
    Host.Outcome State Fault Refusal :=
  constructMessage v (some (stationPayload node cs flags majorRev minorRev build)) s

/-- Pack a module name at `v` (R154). -/
def packName (v : Byte) (name : List Byte) (s : State) : Host.Outcome State Fault Refusal :=
  withName name (constructMessage v (some (namePayload name)) s)

/-- Pack one 16-bit field at `v` (R155). -/
def packWord (v : Byte) (n : BitVec 16) (s : State) : Host.Outcome State Fault Refusal :=
  constructMessage v (some (Bits.be16 n)) s

/-- Pack one 8-bit field at `v` (R156). -/
def packByte (v n : Byte) (s : State) : Host.Outcome State Fault Refusal := constructMessage v (some [n]) s

/-- PK.ENG (R151). -/
def execPkEng (v session : Byte) (addr : BitVec 16) (speed : Byte) (dir : BitVec 1) (f1 f2 f3 : Option Byte) (s : State) :
    Host.Outcome State Fault Refusal := packEngine v session addr speed dir f1 f2 f3 s

/-- PK.ALEV (R152). -/
def execPkAlev (v : Byte) (node event : BitVec 16) (s : State) : Host.Outcome State Fault Refusal :=
  packEvent v node event s

/-- PK.CSRPT (R153). -/
def execPkCsrpt (v : Byte) (node : BitVec 16) (cs flags majorRev minorRev : Byte) (build : Option Byte) (s : State) :
    Host.Outcome State Fault Refusal := packStation v node cs flags majorRev minorRev build s

/-- PK.NAME (R154). -/
def execPkName (v : Byte) (name : List Byte) (s : State) : Host.Outcome State Fault Refusal := packName v name s

/-- PK.U16 (R155). -/
def execPkU16 (v : Byte) (n : BitVec 16) (s : State) : Host.Outcome State Fault Refusal := packWord v n s

/-- PK.U8 (R156). -/
def execPkU8 (v n : Byte) (s : State) : Host.Outcome State Fault Refusal := packByte v n s

end Machine
end Sys2Proof
end

