-- ==== Sys2Proof/Machine/Entries.lean ====
section
/-! DEFINITION. The eight ROM entries the source names (42_opcode_rom.md R114, R115): the pseudo-operations of 30_encoding.md R74, the
packers R115 ties to an entry, and raw messages where the source gives no layout. DESIGN CHOICE (log 4). -/

namespace Sys2Proof
namespace Machine

/-- An opcode value with seven payload bytes: `LEN` = 7 and the low five bits `idx` (R55, R115). -/
def sevenByteOpcode (idx : BitVec 5) : Byte := 0xE0#8 ||| idx.setWidth 8

/-- `session-keep-alive(session)` is PK.U8(v = 0x23, n = session) (R74). -/
def execEntrySessionKeepAlive (session : Byte) (s : State) : Host.Outcome State Fault Refusal := packByte 0x23 session s

/-- `request-engine-session(loco_address)` is PK.U16(v = 0x40, n = loco_address) (R74). -/
def execEntryRequestEngineSession (addr : BitVec 16) (s : State) : Host.Outcome State Fault Refusal := packWord 0x40 addr s

/-- `make_accessory_long_event_on(node, event)` is PK.ALEV(v = V_ACON, node, event), V_ACON the address of the entry
named ACON (R74). -/
def execEntryAcon (node event : BitVec 16) (s : State) : Host.Outcome State Fault Refusal :=
  withRom s (withNamed "ACON" s fun v => packEvent v node event s)

/-- The engine report at 0xE0 + idx (R115, R151). -/
def execEntryEngineReport (idx : BitVec 5) (session : Byte) (addr : BitVec 16) (speed : Byte) (dir : BitVec 1)
    (f1 f2 f3 : Option Byte) (s : State) : Host.Outcome State Fault Refusal :=
  packEngine (sevenByteOpcode idx) session addr speed dir f1 f2 f3 s

/-- The command-station report at 0xE0 + idx (R115, R153). -/
def execEntryCommandStationReport (idx : BitVec 5) (node : BitVec 16) (cs flags majorRev minorRev : Byte)
    (build : Option Byte) (s : State) : Host.Outcome State Fault Refusal :=
  packStation (sevenByteOpcode idx) node cs flags majorRev minorRev build s

/-- The module name at 0xE0 + idx (R115, R154). -/
def execEntryModuleName (idx : BitVec 5) (name : List Byte) (s : State) : Host.Outcome State Fault Refusal :=
  packName (sevenByteOpcode idx) name s

/-- A message of the entry named CMDERR, whose address and layout the source does not give (R115): MSG.NEW at that
entry (R131). -/
def execEntryCmderr (payload : Option (List Byte)) (s : State) : Host.Outcome State Fault Refusal :=
  withRom s (withNamed "CMDERR" s fun v => constructMessage v payload s)

/-- A message of the entry named ERR (R115): MSG.NEW at that entry (R131). -/
def execEntryErr (payload : Option (List Byte)) (s : State) : Host.Outcome State Fault Refusal :=
  withRom s (withNamed "ERR" s fun v => constructMessage v payload s)

end Machine
end Sys2Proof
end

