-- ==== Sys2Proof/Machine/Hdr.lean ====
section
/-! DEFINITION. Unit HDR (41_header_mux.md). -/

namespace Sys2Proof
namespace Machine

/-- The header of three numbers (R91): fails when the whole operand `sid_in` exceeds 127. -/
def encodeHeader (major minor : BitVec 2) (sidIn : BitVec Config.sidInW) : Except ErrKind Header :=
  if sidIn.toNat > 127 then .error .invalidIdentifier
  else .ok { major := major, minor := minor, sid := sidIn.setWidth 7 }

/-- The header of a byte sequence of length 0 to 2 (R93). -/
def decodeHeader (bs : List Byte) : Except ErrKind Header :=
  match bs with
  | hb :: lb :: _ => .ok (Bits.headerOf hb lb)
  | _ => .error .insufficientData

/-- The four digits of a header (R98). -/
def headerAscii (h : Header) : List Byte := Bits.hex2 (Bits.highByte h) ++ Bits.hex2 (Bits.lowByte h)

/-- Header equality is over the packed bytes (R99). -/
def headerEq (h1 h2 : Header) : Bool :=
  Bits.highByte h1 == Bits.highByte h2 && Bits.lowByte h1 == Bits.lowByte h2

/-- Put the two bytes to the header decoder, refusing more than two (R93, D6). -/
def presentHeader (bs : List Byte) (s : State) : Host.Outcome State Fault Refusal :=
  if bs.length ≤ 2 then respond ((decodeHeader bs).map .header) s else .refused .operandTooLong

/-- Put the 11-bit identifier of a header on the result port (R97). -/
def showCanId (h : Header) (s : State) : Host.Outcome State Fault Refusal :=
  .next (s.complete (.canId (Bits.canTop h) (Bits.canLow h)))

/-- HDR.ENC (R91). -/
def execHdrEnc (major minor : BitVec 2) (sidIn : BitVec Config.sidInW) (s : State) : Host.Outcome State Fault Refusal :=
  respond ((encodeHeader major minor sidIn).map .header) s

/-- HDR.DEC (R93). -/
def execHdrDec (bs : List Byte) (s : State) : Host.Outcome State Fault Refusal := presentHeader bs s

/-- HDR.REG (R96). -/
def execHdrReg (h : Header) (s : State) : Host.Outcome State Fault Refusal :=
  .next (s.complete (.packed (Bits.highByte h) (Bits.lowByte h)))

/-- HDR.CANID (R97). -/
def execHdrCanid (h : Header) (s : State) : Host.Outcome State Fault Refusal := showCanId h s

/-- HDR.ASCII (R98). -/
def execHdrAscii (h : Header) (s : State) : Host.Outcome State Fault Refusal := .next (s.putAscii (headerAscii h))

/-- HDR.EQ (R99). -/
def execHdrEq (h1 h2 : Header) (s : State) : Host.Outcome State Fault Refusal :=
  .next (s.complete (.bit (headerEq h1 h2)))

end Machine
end Sys2Proof
end

