-- ==== Sys2Proof/Machine/Scan.lean ====
section
/-! DEFINITION. Unit SCN: the tokenizer of 46_frame_scanner.md R184 over the scanner's registers, and Emit (R186). -/

namespace Sys2Proof
namespace Machine

/-- `Emit` (R186): the frame of a shape match, or why it is dropped (R188), tested in R217's order. -/
def emit (rom : Rom) (d0 d1 d2 d3 : Nibble) (rtr : Bool) (dg : List Nibble) : Except DropReason Frame :=
  match Bits.pairNibbles dg with
  | none => .error .oddHexLength
  | some bs =>
    match messageOf rom bs with
    | .error k => .error (.codec k)
    | .ok m => .ok { header := Bits.headerOf (Bits.ofNibbles d0 d1) (Bits.ofNibbles d2 d3), message := some m, rtr := rtr }

/-- The outcome of a shape match on the sideband (R190). -/
def spanOutcome : Except DropReason Frame → SpanOutcome
  | .ok _ => .frame
  | .error r => .drop r

/-- The frames a shape match adds to the output: one, or none when it is dropped (R180, R188). -/
def emitted : Except DropReason Frame → List Frame
  | .ok f => [f]
  | .error _ => []

/-- `RESTART(c)` (R184). In IDLE it is the table's two rows for that state. -/
def restart (scn : Scanner) (c : Byte) : Scanner :=
  if c = Bits.colon then { scn with state := .colon, start := scn.pos } else { scn with state := .idle }

/-- A shape match is complete at the `';'` at `scn.pos` (R184). -/
def finishMatch (rom : Rom) (scn : Scanner) : Scanner × Option Span :=
  let r := emit rom scn.hn0 scn.hn1 scn.hn2 scn.hn3 scn.rtr scn.dig
  ({ scn with out := scn.out ++ emitted r, state := .idle },
    some { start := scn.start, stop := scn.pos + 1, outcome := spanOutcome r })

/-- The action of R184's table for one byte; the span is that of a match completed by it. -/
def scanAct (rom : Rom) (scn : Scanner) (c : Byte) : Scanner × Option Span :=
  match scn.state with
  | .idle => (restart scn c, none)
  | .colon => if c = Bits.charS then ({ scn with state := .h0 }, none) else (restart scn c, none)
  | .h0 =>
    match Bits.hexval c with
    | some d => ({ scn with hn0 := d, state := .h1 }, none)
    | none => (restart scn c, none)
  | .h1 =>
    match Bits.hexval c with
    | some d => ({ scn with hn1 := d, state := .h2 }, none)
    | none => (restart scn c, none)
  | .h2 =>
    match Bits.hexval c with
    | some d => ({ scn with hn2 := d, state := .h3 }, none)
    | none => (restart scn c, none)
  | .h3 =>
    match Bits.hexval c with
    | some d => ({ scn with hn3 := d, state := .mode }, none)
    | none => (restart scn c, none)
  | .mode =>
    match rtrOfMode c with
    | some r => ({ scn with rtr := r, dig := [], state := .d1 }, none)
    | none => (restart scn c, none)
  | .d1 =>
    match Bits.hexval c with
    | some d => ({ scn with dig := [d], state := .dn }, none)
    | none => (restart scn c, none)
  | .dn =>
    match Bits.hexval c with
    | some d => ({ scn with dig := scn.dig ++ [d] }, none)
    | none => if c = Bits.semicolon then finishMatch rom scn else (restart scn c, none)

/-- One pass of the machine: the action, then `scn.pos <- scn.pos + 1` (R18, R184). -/
def scanByte (rom : Rom) (scn : Scanner) (c : Byte) : Scanner × Option Span :=
  ({ (scanAct rom scn c).1 with pos := scn.pos + 1 }, (scanAct rom scn c).2)

/-- The machine over the bytes of a buffer, in order (R33, R184): the registers at its end and the spans. -/
def scanLoop (rom : Rom) : List Byte → Scanner → Scanner × List Span
  | [], scn => (scn, [])
  | c :: rest, scn =>
    let now := scanByte rom scn c
    let after := scanLoop rom rest now.1
    (after.1, now.2.toList ++ after.2)

/-- FRM.SCAN's step of the machine (R180, R184, R191): the registers are cleared at the start, the result is `scn.out`, and the
registers are cleared again: nothing of a scan survives it (R16, R17; log 10). -/
def State.scanBuffer (buf : List Byte) (s : State) : State :=
  let run := scanLoop s.rom buf Scanner.cleared
  { s.complete (.frames run.1.out) with
    inStream := beats buf
    frameOut := run.1.out
    spanOut := run.2
    scn := Scanner.cleared }

/-- Put a buffer to the scanner (R180). -/
def scanFrames (buf : List Byte) (s : State) : Host.Outcome State Fault Refusal := withRom s (.next (s.scanBuffer buf))

end Machine
end Sys2Proof
end

