-- ==== Sys2Proof/Machine/Formats.lean ====
section
/-! DEFINITION. The five data formats of the table (30_encoding.md R50). A format is no operation; as a transaction its row gives a
value of the format to the operation that R50 says uses it. DESIGN CHOICE (log 2). -/

namespace Sys2Proof
namespace Machine

/-- F-PRI (R51), used by PRI.UNPACK (R82). -/
def execFormatPri (b : Byte) (s : State) : Host.Outcome State Fault Refusal :=
  .next (s.complete (.priorities (Bits.majorOf b) (Bits.minorOf b)))

/-- F-HDR (R53), used by HDR.DEC (R93). -/
def execFormatHdr (hb lb : Byte) (s : State) : Host.Outcome State Fault Refusal := presentHeader [hb, lb] s

/-- F-CANID (R54), used by HDR.CANID (R97): the identifier of the header it is the identifier of. -/
def execFormatCanid (id : BitVec 11) (s : State) : Host.Outcome State Fault Refusal := showCanId (Bits.headerOfCanId id) s

/-- F-MSG (R55), used by MSG.DEC (R133). -/
def execFormatMsg (bs : List Byte) (s : State) : Host.Outcome State Fault Refusal := decodeMessage bs s

/-- F-WIRE (R57), used by FRM.SCAN (R180). -/
def execFormatWire (buf : List Byte) (s : State) : Host.Outcome State Fault Refusal := scanFrames buf s

end Machine
end Sys2Proof
end

