-- ==== Sys2Proof/Machine/Frm.lean ====
section
/-! DEFINITION. Unit SER (45_frame_serializer.md) and the operation of unit SCN (46_frame_scanner.md). -/

namespace Sys2Proof
namespace Machine

/-- The wire form of a frame (R171): `":S"`, the header's digits, the mode character, the message's digits, `";"`. -/
def frameAscii (f : Frame) : List Byte :=
  [Bits.colon, Bits.charS] ++ headerAscii f.header ++ [modeChar f.rtr] ++
    (match f.message with
     | none => []
     | some m => Bits.hexBytes m.bytes) ++ [Bits.semicolon]

/-- Frame equality: header and message, not rtr; `absent` equals only `absent` (R175). -/
def frameEq (f1 f2 : Frame) : Bool :=
  headerEq f1.header f2.header &&
    (match f1.message, f2.message with
     | none, none => true
     | some m1, some m2 => messageEq m1 m2
     | _, _ => false)

/-- FRM.ENC (R171). -/
def execFrmEnc (f : Frame) (s : State) : Host.Outcome State Fault Refusal :=
  withFrame f (.next (s.putAscii (frameAscii f)))

/-- FRM.SCAN (R180). -/
def execFrmScan (buf : List Byte) (s : State) : Host.Outcome State Fault Refusal := scanFrames buf s

/-- FRM.EQ (R175). -/
def execFrmEq (f1 f2 : Frame) (s : State) : Host.Outcome State Fault Refusal :=
  withFrame f1 (withFrame f2 (.next (s.complete (.bit (frameEq f1 f2)))))

end Machine
end Sys2Proof
end

