-- ==== Sys2Proof/Machine/Pri.lean ====
section
/-! DEFINITION. Unit PRI (40_priority_packer.md). -/

namespace Sys2Proof
namespace Machine

/-- PRI.PACK (R81): `(major << 6) | (minor << 4)`. -/
def execPriPack (major minor : BitVec 2) (s : State) : Host.Outcome State Fault Refusal :=
  .next (s.complete (.pri (Bits.packPri major minor)))

/-- PRI.UNPACK (R82). -/
def execPriUnpack (b : Byte) (s : State) : Host.Outcome State Fault Refusal :=
  .next (s.complete (.priorities (Bits.majorOf b) (Bits.minorOf b)))

end Machine
end Sys2Proof
end

