-- ==== Sys2Proof/Machine/RomRows.lean ====
section
/-! DEFINITION. The 130 ROM entries of the default catalog (30_encoding.md R71, G3). A row is an entry of the opcode ROM and
no operation; as a transaction it presents the binary message of its opcode (F-MSG, R55) to the message codec (R133).
DESIGN CHOICE (log 3). -/

namespace Sys2Proof
namespace Machine

/-- Present the binary message of opcode `v` with `payload` to the message codec: MSG.DEC of `[v] ++ payload` (R133). -/
def presentMessage (v : Byte) (payload : List Byte) (s : State) : Host.Outcome State Fault Refusal :=
  decodeMessage (v :: payload) s

/-- ACK, 0x00 (R71, R133). -/
def execRomACK (payload : List Byte) (s : State) : Host.Outcome State Fault Refusal := presentMessage 0x00 payload s

/-- NAK, 0x01 (R71, R133). -/
def execRomNAK (payload : List Byte) (s : State) : Host.Outcome State Fault Refusal := presentMessage 0x01 payload s

/-- HLT, 0x02 (R71, R133). -/
def execRomHLT (payload : List Byte) (s : State) : Host.Outcome State Fault Refusal := presentMessage 0x02 payload s

/-- BON, 0x03 (R71, R133). -/
def execRomBON (payload : List Byte) (s : State) : Host.Outcome State Fault Refusal := presentMessage 0x03 payload s

/-- TOF, 0x04 (R71, R133). -/
def execRomTOF (payload : List Byte) (s : State) : Host.Outcome State Fault Refusal := presentMessage 0x04 payload s

/-- TON, 0x05 (R71, R133). -/
def execRomTON (payload : List Byte) (s : State) : Host.Outcome State Fault Refusal := presentMessage 0x05 payload s

/-- ESTOP, 0x06 (R71, R133). -/
def execRomESTOP (payload : List Byte) (s : State) : Host.Outcome State Fault Refusal := presentMessage 0x06 payload s

/-- ARST, 0x07 (R71, R133). -/
def execRomARST (payload : List Byte) (s : State) : Host.Outcome State Fault Refusal := presentMessage 0x07 payload s

/-- RTOF, 0x08 (R71, R133). -/
def execRomRTOF (payload : List Byte) (s : State) : Host.Outcome State Fault Refusal := presentMessage 0x08 payload s

/-- RTON, 0x09 (R71, R133). -/
def execRomRTON (payload : List Byte) (s : State) : Host.Outcome State Fault Refusal := presentMessage 0x09 payload s

/-- RESTP, 0x0A (R71, R133). -/
def execRomRESTP (payload : List Byte) (s : State) : Host.Outcome State Fault Refusal := presentMessage 0x0A payload s

/-- RSTAT, 0x0C (R71, R133). -/
def execRomRSTAT (payload : List Byte) (s : State) : Host.Outcome State Fault Refusal := presentMessage 0x0C payload s

/-- QNN, 0x0D (R71, R133). -/
def execRomQNN (payload : List Byte) (s : State) : Host.Outcome State Fault Refusal := presentMessage 0x0D payload s

/-- RQNP, 0x10 (R71, R133). -/
def execRomRQNP (payload : List Byte) (s : State) : Host.Outcome State Fault Refusal := presentMessage 0x10 payload s

/-- RQMN, 0x11 (R71, R133). -/
def execRomRQMN (payload : List Byte) (s : State) : Host.Outcome State Fault Refusal := presentMessage 0x11 payload s

/-- KLOC, 0x21 (R71, R133). -/
def execRomKLOC (payload : List Byte) (s : State) : Host.Outcome State Fault Refusal := presentMessage 0x21 payload s

/-- QLOC, 0x22 (R71, R133). -/
def execRomQLOC (payload : List Byte) (s : State) : Host.Outcome State Fault Refusal := presentMessage 0x22 payload s

/-- DKEEP, 0x23 (R71, R133). -/
def execRomDKEEP (payload : List Byte) (s : State) : Host.Outcome State Fault Refusal := presentMessage 0x23 payload s

/-- DBG1, 0x30 (R71, R133). -/
def execRomDBG1 (payload : List Byte) (s : State) : Host.Outcome State Fault Refusal := presentMessage 0x30 payload s

/-- EXTC, 0x3F (R71, R133). -/
def execRomEXTC (payload : List Byte) (s : State) : Host.Outcome State Fault Refusal := presentMessage 0x3F payload s

/-- RLOC, 0x40 (R71, R133). -/
def execRomRLOC (payload : List Byte) (s : State) : Host.Outcome State Fault Refusal := presentMessage 0x40 payload s

/-- QCON, 0x41 (R71, R133). -/
def execRomQCON (payload : List Byte) (s : State) : Host.Outcome State Fault Refusal := presentMessage 0x41 payload s

/-- SNN, 0x42 (R71, R133). -/
def execRomSNN (payload : List Byte) (s : State) : Host.Outcome State Fault Refusal := presentMessage 0x42 payload s

/-- ALOC, 0x43 (R71, R133). -/
def execRomALOC (payload : List Byte) (s : State) : Host.Outcome State Fault Refusal := presentMessage 0x43 payload s

/-- STMOD, 0x44 (R71, R133). -/
def execRomSTMOD (payload : List Byte) (s : State) : Host.Outcome State Fault Refusal := presentMessage 0x44 payload s

/-- PCON, 0x45 (R71, R133). -/
def execRomPCON (payload : List Byte) (s : State) : Host.Outcome State Fault Refusal := presentMessage 0x45 payload s

/-- KCON, 0x46 (R71, R133). -/
def execRomKCON (payload : List Byte) (s : State) : Host.Outcome State Fault Refusal := presentMessage 0x46 payload s

/-- DSPD, 0x47 (R71, R133). -/
def execRomDSPD (payload : List Byte) (s : State) : Host.Outcome State Fault Refusal := presentMessage 0x47 payload s

/-- DFLG, 0x48 (R71, R133). -/
def execRomDFLG (payload : List Byte) (s : State) : Host.Outcome State Fault Refusal := presentMessage 0x48 payload s

/-- DFNON, 0x49 (R71, R133). -/
def execRomDFNON (payload : List Byte) (s : State) : Host.Outcome State Fault Refusal := presentMessage 0x49 payload s

/-- DFNOF, 0x4A (R71, R133). -/
def execRomDFNOF (payload : List Byte) (s : State) : Host.Outcome State Fault Refusal := presentMessage 0x4A payload s

/-- SSTAT, 0x4C (R71, R133). -/
def execRomSSTAT (payload : List Byte) (s : State) : Host.Outcome State Fault Refusal := presentMessage 0x4C payload s

/-- NNRSM, 0x4F (R71, R133). -/
def execRomNNRSM (payload : List Byte) (s : State) : Host.Outcome State Fault Refusal := presentMessage 0x4F payload s

/-- RQNN, 0x50 (R71, R133). -/
def execRomRQNN (payload : List Byte) (s : State) : Host.Outcome State Fault Refusal := presentMessage 0x50 payload s

/-- NNREL, 0x51 (R71, R133). -/
def execRomNNREL (payload : List Byte) (s : State) : Host.Outcome State Fault Refusal := presentMessage 0x51 payload s

/-- NNACK, 0x52 (R71, R133). -/
def execRomNNACK (payload : List Byte) (s : State) : Host.Outcome State Fault Refusal := presentMessage 0x52 payload s

/-- NNLRN, 0x53 (R71, R133). -/
def execRomNNLRN (payload : List Byte) (s : State) : Host.Outcome State Fault Refusal := presentMessage 0x53 payload s

/-- NNULN, 0x54 (R71, R133). -/
def execRomNNULN (payload : List Byte) (s : State) : Host.Outcome State Fault Refusal := presentMessage 0x54 payload s

/-- NNCLR, 0x55 (R71, R133). -/
def execRomNNCLR (payload : List Byte) (s : State) : Host.Outcome State Fault Refusal := presentMessage 0x55 payload s

/-- NNEVN, 0x56 (R71, R133). -/
def execRomNNEVN (payload : List Byte) (s : State) : Host.Outcome State Fault Refusal := presentMessage 0x56 payload s

/-- NERD, 0x57 (R71, R133). -/
def execRomNERD (payload : List Byte) (s : State) : Host.Outcome State Fault Refusal := presentMessage 0x57 payload s

/-- RQEVN, 0x58 (R71, R133). -/
def execRomRQEVN (payload : List Byte) (s : State) : Host.Outcome State Fault Refusal := presentMessage 0x58 payload s

/-- WRACK, 0x59 (R71, R133). -/
def execRomWRACK (payload : List Byte) (s : State) : Host.Outcome State Fault Refusal := presentMessage 0x59 payload s

/-- RQDAT, 0x5A (R71, R133). -/
def execRomRQDAT (payload : List Byte) (s : State) : Host.Outcome State Fault Refusal := presentMessage 0x5A payload s

/-- RQDDS, 0x5B (R71, R133). -/
def execRomRQDDS (payload : List Byte) (s : State) : Host.Outcome State Fault Refusal := presentMessage 0x5B payload s

/-- BOOTM, 0x5C (R71, R133). -/
def execRomBOOTM (payload : List Byte) (s : State) : Host.Outcome State Fault Refusal := presentMessage 0x5C payload s

/-- ENUM, 0x5D (R71, R133). -/
def execRomENUM (payload : List Byte) (s : State) : Host.Outcome State Fault Refusal := presentMessage 0x5D payload s

/-- NNRST, 0x5E (R71, R133). -/
def execRomNNRST (payload : List Byte) (s : State) : Host.Outcome State Fault Refusal := presentMessage 0x5E payload s

/-- EXTC1, 0x5F (R71, R133). -/
def execRomEXTC1 (payload : List Byte) (s : State) : Host.Outcome State Fault Refusal := presentMessage 0x5F payload s

/-- DFUN, 0x60 (R71, R133). -/
def execRomDFUN (payload : List Byte) (s : State) : Host.Outcome State Fault Refusal := presentMessage 0x60 payload s

/-- GLOC, 0x61 (R71, R133). -/
def execRomGLOC (payload : List Byte) (s : State) : Host.Outcome State Fault Refusal := presentMessage 0x61 payload s

/-- ERR, 0x63 (R71, R133). -/
def execRomERR (payload : List Byte) (s : State) : Host.Outcome State Fault Refusal := presentMessage 0x63 payload s

/-- CMDERR, 0x6F (R71, R133). -/
def execRomCMDERR (payload : List Byte) (s : State) : Host.Outcome State Fault Refusal := presentMessage 0x6F payload s

/-- EVNLF, 0x70 (R71, R133). -/
def execRomEVNLF (payload : List Byte) (s : State) : Host.Outcome State Fault Refusal := presentMessage 0x70 payload s

/-- NVRD, 0x71 (R71, R133). -/
def execRomNVRD (payload : List Byte) (s : State) : Host.Outcome State Fault Refusal := presentMessage 0x71 payload s

/-- NENRD, 0x72 (R71, R133). -/
def execRomNENRD (payload : List Byte) (s : State) : Host.Outcome State Fault Refusal := presentMessage 0x72 payload s

/-- RQNPN, 0x73 (R71, R133). -/
def execRomRQNPN (payload : List Byte) (s : State) : Host.Outcome State Fault Refusal := presentMessage 0x73 payload s

/-- NUMEV, 0x74 (R71, R133). -/
def execRomNUMEV (payload : List Byte) (s : State) : Host.Outcome State Fault Refusal := presentMessage 0x74 payload s

/-- CANID, 0x75 (R71, R133). -/
def execRomCANID (payload : List Byte) (s : State) : Host.Outcome State Fault Refusal := presentMessage 0x75 payload s

/-- EXTC2, 0x7F (R71, R133). -/
def execRomEXTC2 (payload : List Byte) (s : State) : Host.Outcome State Fault Refusal := presentMessage 0x7F payload s

/-- RDCC3, 0x80 (R71, R133). -/
def execRomRDCC3 (payload : List Byte) (s : State) : Host.Outcome State Fault Refusal := presentMessage 0x80 payload s

/-- WCVO, 0x82 (R71, R133). -/
def execRomWCVO (payload : List Byte) (s : State) : Host.Outcome State Fault Refusal := presentMessage 0x82 payload s

/-- WCVB, 0x83 (R71, R133). -/
def execRomWCVB (payload : List Byte) (s : State) : Host.Outcome State Fault Refusal := presentMessage 0x83 payload s

/-- QCVS, 0x84 (R71, R133). -/
def execRomQCVS (payload : List Byte) (s : State) : Host.Outcome State Fault Refusal := presentMessage 0x84 payload s

/-- PCVS, 0x85 (R71, R133). -/
def execRomPCVS (payload : List Byte) (s : State) : Host.Outcome State Fault Refusal := presentMessage 0x85 payload s

/-- ACON, 0x90 (R71, R133). -/
def execRomACON (payload : List Byte) (s : State) : Host.Outcome State Fault Refusal := presentMessage 0x90 payload s

/-- ACOF, 0x91 (R71, R133). -/
def execRomACOF (payload : List Byte) (s : State) : Host.Outcome State Fault Refusal := presentMessage 0x91 payload s

/-- AREQ, 0x92 (R71, R133). -/
def execRomAREQ (payload : List Byte) (s : State) : Host.Outcome State Fault Refusal := presentMessage 0x92 payload s

/-- ARON, 0x93 (R71, R133). -/
def execRomARON (payload : List Byte) (s : State) : Host.Outcome State Fault Refusal := presentMessage 0x93 payload s

/-- AROF, 0x94 (R71, R133). -/
def execRomAROF (payload : List Byte) (s : State) : Host.Outcome State Fault Refusal := presentMessage 0x94 payload s

/-- EVULN, 0x95 (R71, R133). -/
def execRomEVULN (payload : List Byte) (s : State) : Host.Outcome State Fault Refusal := presentMessage 0x95 payload s

/-- NVSET, 0x96 (R71, R133). -/
def execRomNVSET (payload : List Byte) (s : State) : Host.Outcome State Fault Refusal := presentMessage 0x96 payload s

/-- NVANS, 0x97 (R71, R133). -/
def execRomNVANS (payload : List Byte) (s : State) : Host.Outcome State Fault Refusal := presentMessage 0x97 payload s

/-- ASON, 0x98 (R71, R133). -/
def execRomASON (payload : List Byte) (s : State) : Host.Outcome State Fault Refusal := presentMessage 0x98 payload s

/-- ASOF, 0x99 (R71, R133). -/
def execRomASOF (payload : List Byte) (s : State) : Host.Outcome State Fault Refusal := presentMessage 0x99 payload s

/-- ASRQ, 0x9A (R71, R133). -/
def execRomASRQ (payload : List Byte) (s : State) : Host.Outcome State Fault Refusal := presentMessage 0x9A payload s

/-- PARAN, 0x9B (R71, R133). -/
def execRomPARAN (payload : List Byte) (s : State) : Host.Outcome State Fault Refusal := presentMessage 0x9B payload s

/-- REVAL, 0x9C (R71, R133). -/
def execRomREVAL (payload : List Byte) (s : State) : Host.Outcome State Fault Refusal := presentMessage 0x9C payload s

/-- ARSON, 0x9D (R71, R133). -/
def execRomARSON (payload : List Byte) (s : State) : Host.Outcome State Fault Refusal := presentMessage 0x9D payload s

/-- ARSOF, 0x9E (R71, R133). -/
def execRomARSOF (payload : List Byte) (s : State) : Host.Outcome State Fault Refusal := presentMessage 0x9E payload s

/-- EXTC3, 0x9F (R71, R133). -/
def execRomEXTC3 (payload : List Byte) (s : State) : Host.Outcome State Fault Refusal := presentMessage 0x9F payload s

/-- RDCC4, 0xA0 (R71, R133). -/
def execRomRDCC4 (payload : List Byte) (s : State) : Host.Outcome State Fault Refusal := presentMessage 0xA0 payload s

/-- WCVS, 0xA2 (R71, R133). -/
def execRomWCVS (payload : List Byte) (s : State) : Host.Outcome State Fault Refusal := presentMessage 0xA2 payload s

/-- ACON1, 0xB0 (R71, R133). -/
def execRomACON1 (payload : List Byte) (s : State) : Host.Outcome State Fault Refusal := presentMessage 0xB0 payload s

/-- ACOF1, 0xB1 (R71, R133). -/
def execRomACOF1 (payload : List Byte) (s : State) : Host.Outcome State Fault Refusal := presentMessage 0xB1 payload s

/-- REQEV, 0xB2 (R71, R133). -/
def execRomREQEV (payload : List Byte) (s : State) : Host.Outcome State Fault Refusal := presentMessage 0xB2 payload s

/-- ARON1, 0xB3 (R71, R133). -/
def execRomARON1 (payload : List Byte) (s : State) : Host.Outcome State Fault Refusal := presentMessage 0xB3 payload s

/-- AROF1, 0xB4 (R71, R133). -/
def execRomAROF1 (payload : List Byte) (s : State) : Host.Outcome State Fault Refusal := presentMessage 0xB4 payload s

/-- NEVAL, 0xB5 (R71, R133). -/
def execRomNEVAL (payload : List Byte) (s : State) : Host.Outcome State Fault Refusal := presentMessage 0xB5 payload s

/-- PNN, 0xB6 (R71, R133). -/
def execRomPNN (payload : List Byte) (s : State) : Host.Outcome State Fault Refusal := presentMessage 0xB6 payload s

/-- ASON1, 0xB8 (R71, R133). -/
def execRomASON1 (payload : List Byte) (s : State) : Host.Outcome State Fault Refusal := presentMessage 0xB8 payload s

/-- ASOF1, 0xB9 (R71, R133). -/
def execRomASOF1 (payload : List Byte) (s : State) : Host.Outcome State Fault Refusal := presentMessage 0xB9 payload s

/-- ARSON1, 0xBD (R71, R133). -/
def execRomARSON1 (payload : List Byte) (s : State) : Host.Outcome State Fault Refusal := presentMessage 0xBD payload s

/-- ARSOF1, 0xBE (R71, R133). -/
def execRomARSOF1 (payload : List Byte) (s : State) : Host.Outcome State Fault Refusal := presentMessage 0xBE payload s

/-- EXTC4, 0xBF (R71, R133). -/
def execRomEXTC4 (payload : List Byte) (s : State) : Host.Outcome State Fault Refusal := presentMessage 0xBF payload s

/-- RDCC5, 0xC0 (R71, R133). -/
def execRomRDCC5 (payload : List Byte) (s : State) : Host.Outcome State Fault Refusal := presentMessage 0xC0 payload s

/-- WCVOA, 0xC1 (R71, R133). -/
def execRomWCVOA (payload : List Byte) (s : State) : Host.Outcome State Fault Refusal := presentMessage 0xC1 payload s

/-- CABDAT, 0xC2 (R71, R133). -/
def execRomCABDAT (payload : List Byte) (s : State) : Host.Outcome State Fault Refusal := presentMessage 0xC2 payload s

/-- FCLK, 0xCF (R71, R133). -/
def execRomFCLK (payload : List Byte) (s : State) : Host.Outcome State Fault Refusal := presentMessage 0xCF payload s

/-- ACON2, 0xD0 (R71, R133). -/
def execRomACON2 (payload : List Byte) (s : State) : Host.Outcome State Fault Refusal := presentMessage 0xD0 payload s

/-- ACOF2, 0xD1 (R71, R133). -/
def execRomACOF2 (payload : List Byte) (s : State) : Host.Outcome State Fault Refusal := presentMessage 0xD1 payload s

/-- EVLRN, 0xD2 (R71, R133). -/
def execRomEVLRN (payload : List Byte) (s : State) : Host.Outcome State Fault Refusal := presentMessage 0xD2 payload s

/-- EVANS, 0xD3 (R71, R133). -/
def execRomEVANS (payload : List Byte) (s : State) : Host.Outcome State Fault Refusal := presentMessage 0xD3 payload s

/-- ARON2, 0xD4 (R71, R133). -/
def execRomARON2 (payload : List Byte) (s : State) : Host.Outcome State Fault Refusal := presentMessage 0xD4 payload s

/-- AROF2, 0xD5 (R71, R133). -/
def execRomAROF2 (payload : List Byte) (s : State) : Host.Outcome State Fault Refusal := presentMessage 0xD5 payload s

/-- ASON2, 0xD8 (R71, R133). -/
def execRomASON2 (payload : List Byte) (s : State) : Host.Outcome State Fault Refusal := presentMessage 0xD8 payload s

/-- ASOF2, 0xD9 (R71, R133). -/
def execRomASOF2 (payload : List Byte) (s : State) : Host.Outcome State Fault Refusal := presentMessage 0xD9 payload s

/-- ARSON2, 0xDD (R71, R133). -/
def execRomARSON2 (payload : List Byte) (s : State) : Host.Outcome State Fault Refusal := presentMessage 0xDD payload s

/-- ARSOF2, 0xDE (R71, R133). -/
def execRomARSOF2 (payload : List Byte) (s : State) : Host.Outcome State Fault Refusal := presentMessage 0xDE payload s

/-- EXTC5, 0xDF (R71, R133). -/
def execRomEXTC5 (payload : List Byte) (s : State) : Host.Outcome State Fault Refusal := presentMessage 0xDF payload s

/-- RDCC6, 0xE0 (R71, R133). -/
def execRomRDCC6 (payload : List Byte) (s : State) : Host.Outcome State Fault Refusal := presentMessage 0xE0 payload s

/-- PLOC, 0xE1 (R71, R133). -/
def execRomPLOC (payload : List Byte) (s : State) : Host.Outcome State Fault Refusal := presentMessage 0xE1 payload s

/-- NAME, 0xE2 (R71, R133). -/
def execRomNAME (payload : List Byte) (s : State) : Host.Outcome State Fault Refusal := presentMessage 0xE2 payload s

/-- STAT, 0xE3 (R71, R133). -/
def execRomSTAT (payload : List Byte) (s : State) : Host.Outcome State Fault Refusal := presentMessage 0xE3 payload s

/-- PARAMS, 0xEF (R71, R133). -/
def execRomPARAMS (payload : List Byte) (s : State) : Host.Outcome State Fault Refusal := presentMessage 0xEF payload s

/-- ACON3, 0xF0 (R71, R133). -/
def execRomACON3 (payload : List Byte) (s : State) : Host.Outcome State Fault Refusal := presentMessage 0xF0 payload s

/-- ACOF3, 0xF1 (R71, R133). -/
def execRomACOF3 (payload : List Byte) (s : State) : Host.Outcome State Fault Refusal := presentMessage 0xF1 payload s

/-- ENRSP, 0xF2 (R71, R133). -/
def execRomENRSP (payload : List Byte) (s : State) : Host.Outcome State Fault Refusal := presentMessage 0xF2 payload s

/-- ARON3, 0xF3 (R71, R133). -/
def execRomARON3 (payload : List Byte) (s : State) : Host.Outcome State Fault Refusal := presentMessage 0xF3 payload s

/-- AROF3, 0xF4 (R71, R133). -/
def execRomAROF3 (payload : List Byte) (s : State) : Host.Outcome State Fault Refusal := presentMessage 0xF4 payload s

/-- EVLRNI, 0xF5 (R71, R133). -/
def execRomEVLRNI (payload : List Byte) (s : State) : Host.Outcome State Fault Refusal := presentMessage 0xF5 payload s

/-- ACDAT, 0xF6 (R71, R133). -/
def execRomACDAT (payload : List Byte) (s : State) : Host.Outcome State Fault Refusal := presentMessage 0xF6 payload s

/-- ARDAT, 0xF7 (R71, R133). -/
def execRomARDAT (payload : List Byte) (s : State) : Host.Outcome State Fault Refusal := presentMessage 0xF7 payload s

/-- ASON3, 0xF8 (R71, R133). -/
def execRomASON3 (payload : List Byte) (s : State) : Host.Outcome State Fault Refusal := presentMessage 0xF8 payload s

/-- ASOF3, 0xF9 (R71, R133). -/
def execRomASOF3 (payload : List Byte) (s : State) : Host.Outcome State Fault Refusal := presentMessage 0xF9 payload s

/-- DDES, 0xFA (R71, R133). -/
def execRomDDES (payload : List Byte) (s : State) : Host.Outcome State Fault Refusal := presentMessage 0xFA payload s

/-- DDRS, 0xFB (R71, R133). -/
def execRomDDRS (payload : List Byte) (s : State) : Host.Outcome State Fault Refusal := presentMessage 0xFB payload s

/-- ARSON3, 0xFD (R71, R133). -/
def execRomARSON3 (payload : List Byte) (s : State) : Host.Outcome State Fault Refusal := presentMessage 0xFD payload s

/-- ARSOF3, 0xFE (R71, R133). -/
def execRomARSOF3 (payload : List Byte) (s : State) : Host.Outcome State Fault Refusal := presentMessage 0xFE payload s

/-- EXTC6, 0xFF (R71, R133). -/
def execRomEXTC6 (payload : List Byte) (s : State) : Host.Outcome State Fault Refusal := presentMessage 0xFF payload s

end Machine
end Sys2Proof
end

