-- ==== Sys2Proof/Machine/Unused.lean ====
section
/-! DEFINITION. The unused operation codes: "Codes not listed (0x0F, 0x16, 0x17, 0x1B..0x1F) select no operation; presenting one
is outside the model (a model refuses it)" (30_encoding.md R70, U1). -/

namespace Sys2Proof
namespace Machine

/-- Code 0x0F selects no operation (R70). -/
def execUnused0F (_ : State) : Host.Outcome State Fault Refusal := .refused (.noOperation 0x0F)

/-- Code 0x16 selects no operation (R70). -/
def execUnused16 (_ : State) : Host.Outcome State Fault Refusal := .refused (.noOperation 0x16)

/-- Code 0x17 selects no operation (R70). -/
def execUnused17 (_ : State) : Host.Outcome State Fault Refusal := .refused (.noOperation 0x17)

/-- Code 0x1B selects no operation (R70). -/
def execUnused1B (_ : State) : Host.Outcome State Fault Refusal := .refused (.noOperation 0x1B)

/-- Code 0x1C selects no operation (R70). -/
def execUnused1C (_ : State) : Host.Outcome State Fault Refusal := .refused (.noOperation 0x1C)

/-- Code 0x1D selects no operation (R70). -/
def execUnused1D (_ : State) : Host.Outcome State Fault Refusal := .refused (.noOperation 0x1D)

/-- Code 0x1E selects no operation (R70). -/
def execUnused1E (_ : State) : Host.Outcome State Fault Refusal := .refused (.noOperation 0x1E)

/-- Code 0x1F selects no operation (R70). -/
def execUnused1F (_ : State) : Host.Outcome State Fault Refusal := .refused (.noOperation 0x1F)

end Machine
end Sys2Proof
end

