-- ==== Sys2Proof/Machine/Dispatch.lean ====
section
/-! DEFINITION. The dispatcher: one arm for each row of spec/opcode_table.json, each a direct call of the row's meaning. -/

namespace Sys2Proof
namespace Machine

/-- The meaning of a transaction. -/
def exec (i : Instr) (s : State) : Host.Outcome State Fault Refusal :=
  match i with
  | .priPack a b => Sys2Proof.Machine.execPriPack a b s
  | .priUnpack b => Sys2Proof.Machine.execPriUnpack b s
  | .hdrEnc a b n => Sys2Proof.Machine.execHdrEnc a b n s
  | .hdrDec bs => Sys2Proof.Machine.execHdrDec bs s
  | .hdrReg h => Sys2Proof.Machine.execHdrReg h s
  | .hdrCanid h => Sys2Proof.Machine.execHdrCanid h s
  | .hdrAscii h => Sys2Proof.Machine.execHdrAscii h s
  | .hdrEq h1 h2 => Sys2Proof.Machine.execHdrEq h1 h2 s
  | .catLen v => Sys2Proof.Machine.execCatLen v s
  | .catLookup v => Sys2Proof.Machine.execCatLookup v s
  | .catCheck => Sys2Proof.Machine.execCatCheck s
  | .msgNew v p => Sys2Proof.Machine.execMsgNew v p s
  | .msgDec bs => Sys2Proof.Machine.execMsgDec bs s
  | .msgHex m => Sys2Proof.Machine.execMsgHex m s
  | .msgEq m1 m2 => Sys2Proof.Machine.execMsgEq m1 m2 s
  | .pkEng v session addr speed dir f1 f2 f3 => Sys2Proof.Machine.execPkEng v session addr speed dir f1 f2 f3 s
  | .pkAlev v node event => Sys2Proof.Machine.execPkAlev v node event s
  | .pkCsrpt v node cs flags ma mi build => Sys2Proof.Machine.execPkCsrpt v node cs flags ma mi build s
  | .pkName v name => Sys2Proof.Machine.execPkName v name s
  | .pkU16 v n => Sys2Proof.Machine.execPkU16 v n s
  | .pkU8 v n => Sys2Proof.Machine.execPkU8 v n s
  | .frmEnc f => Sys2Proof.Machine.execFrmEnc f s
  | .frmScan buf => Sys2Proof.Machine.execFrmScan buf s
  | .frmEq f1 f2 => Sys2Proof.Machine.execFrmEq f1 f2 s
  | .unused0F => Sys2Proof.Machine.execUnused0F s
  | .unused16 => Sys2Proof.Machine.execUnused16 s
  | .unused17 => Sys2Proof.Machine.execUnused17 s
  | .unused1B => Sys2Proof.Machine.execUnused1B s
  | .unused1C => Sys2Proof.Machine.execUnused1C s
  | .unused1D => Sys2Proof.Machine.execUnused1D s
  | .unused1E => Sys2Proof.Machine.execUnused1E s
  | .unused1F => Sys2Proof.Machine.execUnused1F s
  | .formatPri b => Sys2Proof.Machine.execFormatPri b s
  | .formatHdr hb lb => Sys2Proof.Machine.execFormatHdr hb lb s
  | .formatCanid id => Sys2Proof.Machine.execFormatCanid id s
  | .formatMsg bs => Sys2Proof.Machine.execFormatMsg bs s
  | .formatWire buf => Sys2Proof.Machine.execFormatWire buf s
  | .entrySessionKeepAlive session => Sys2Proof.Machine.execEntrySessionKeepAlive session s
  | .entryRequestEngineSession addr => Sys2Proof.Machine.execEntryRequestEngineSession addr s
  | .entryAcon node event => Sys2Proof.Machine.execEntryAcon node event s
  | .entryEngineReport idx session addr speed dir f1 f2 f3 => Sys2Proof.Machine.execEntryEngineReport idx session addr speed dir f1 f2 f3 s
  | .entryCommandStationReport idx node cs flags ma mi build => Sys2Proof.Machine.execEntryCommandStationReport idx node cs flags ma mi build s
  | .entryModuleName idx name => Sys2Proof.Machine.execEntryModuleName idx name s
  | .entryCmderr p => Sys2Proof.Machine.execEntryCmderr p s
  | .entryErr p => Sys2Proof.Machine.execEntryErr p s
  | .romACK p => Sys2Proof.Machine.execRomACK p s
  | .romNAK p => Sys2Proof.Machine.execRomNAK p s
  | .romHLT p => Sys2Proof.Machine.execRomHLT p s
  | .romBON p => Sys2Proof.Machine.execRomBON p s
  | .romTOF p => Sys2Proof.Machine.execRomTOF p s
  | .romTON p => Sys2Proof.Machine.execRomTON p s
  | .romESTOP p => Sys2Proof.Machine.execRomESTOP p s
  | .romARST p => Sys2Proof.Machine.execRomARST p s
  | .romRTOF p => Sys2Proof.Machine.execRomRTOF p s
  | .romRTON p => Sys2Proof.Machine.execRomRTON p s
  | .romRESTP p => Sys2Proof.Machine.execRomRESTP p s
  | .romRSTAT p => Sys2Proof.Machine.execRomRSTAT p s
  | .romQNN p => Sys2Proof.Machine.execRomQNN p s
  | .romRQNP p => Sys2Proof.Machine.execRomRQNP p s
  | .romRQMN p => Sys2Proof.Machine.execRomRQMN p s
  | .romKLOC p => Sys2Proof.Machine.execRomKLOC p s
  | .romQLOC p => Sys2Proof.Machine.execRomQLOC p s
  | .romDKEEP p => Sys2Proof.Machine.execRomDKEEP p s
  | .romDBG1 p => Sys2Proof.Machine.execRomDBG1 p s
  | .romEXTC p => Sys2Proof.Machine.execRomEXTC p s
  | .romRLOC p => Sys2Proof.Machine.execRomRLOC p s
  | .romQCON p => Sys2Proof.Machine.execRomQCON p s
  | .romSNN p => Sys2Proof.Machine.execRomSNN p s
  | .romALOC p => Sys2Proof.Machine.execRomALOC p s
  | .romSTMOD p => Sys2Proof.Machine.execRomSTMOD p s
  | .romPCON p => Sys2Proof.Machine.execRomPCON p s
  | .romKCON p => Sys2Proof.Machine.execRomKCON p s
  | .romDSPD p => Sys2Proof.Machine.execRomDSPD p s
  | .romDFLG p => Sys2Proof.Machine.execRomDFLG p s
  | .romDFNON p => Sys2Proof.Machine.execRomDFNON p s
  | .romDFNOF p => Sys2Proof.Machine.execRomDFNOF p s
  | .romSSTAT p => Sys2Proof.Machine.execRomSSTAT p s
  | .romNNRSM p => Sys2Proof.Machine.execRomNNRSM p s
  | .romRQNN p => Sys2Proof.Machine.execRomRQNN p s
  | .romNNREL p => Sys2Proof.Machine.execRomNNREL p s
  | .romNNACK p => Sys2Proof.Machine.execRomNNACK p s
  | .romNNLRN p => Sys2Proof.Machine.execRomNNLRN p s
  | .romNNULN p => Sys2Proof.Machine.execRomNNULN p s
  | .romNNCLR p => Sys2Proof.Machine.execRomNNCLR p s
  | .romNNEVN p => Sys2Proof.Machine.execRomNNEVN p s
  | .romNERD p => Sys2Proof.Machine.execRomNERD p s
  | .romRQEVN p => Sys2Proof.Machine.execRomRQEVN p s
  | .romWRACK p => Sys2Proof.Machine.execRomWRACK p s
  | .romRQDAT p => Sys2Proof.Machine.execRomRQDAT p s
  | .romRQDDS p => Sys2Proof.Machine.execRomRQDDS p s
  | .romBOOTM p => Sys2Proof.Machine.execRomBOOTM p s
  | .romENUM p => Sys2Proof.Machine.execRomENUM p s
  | .romNNRST p => Sys2Proof.Machine.execRomNNRST p s
  | .romEXTC1 p => Sys2Proof.Machine.execRomEXTC1 p s
  | .romDFUN p => Sys2Proof.Machine.execRomDFUN p s
  | .romGLOC p => Sys2Proof.Machine.execRomGLOC p s
  | .romERR p => Sys2Proof.Machine.execRomERR p s
  | .romCMDERR p => Sys2Proof.Machine.execRomCMDERR p s
  | .romEVNLF p => Sys2Proof.Machine.execRomEVNLF p s
  | .romNVRD p => Sys2Proof.Machine.execRomNVRD p s
  | .romNENRD p => Sys2Proof.Machine.execRomNENRD p s
  | .romRQNPN p => Sys2Proof.Machine.execRomRQNPN p s
  | .romNUMEV p => Sys2Proof.Machine.execRomNUMEV p s
  | .romCANID p => Sys2Proof.Machine.execRomCANID p s
  | .romEXTC2 p => Sys2Proof.Machine.execRomEXTC2 p s
  | .romRDCC3 p => Sys2Proof.Machine.execRomRDCC3 p s
  | .romWCVO p => Sys2Proof.Machine.execRomWCVO p s
  | .romWCVB p => Sys2Proof.Machine.execRomWCVB p s
  | .romQCVS p => Sys2Proof.Machine.execRomQCVS p s
  | .romPCVS p => Sys2Proof.Machine.execRomPCVS p s
  | .romACON p => Sys2Proof.Machine.execRomACON p s
  | .romACOF p => Sys2Proof.Machine.execRomACOF p s
  | .romAREQ p => Sys2Proof.Machine.execRomAREQ p s
  | .romARON p => Sys2Proof.Machine.execRomARON p s
  | .romAROF p => Sys2Proof.Machine.execRomAROF p s
  | .romEVULN p => Sys2Proof.Machine.execRomEVULN p s
  | .romNVSET p => Sys2Proof.Machine.execRomNVSET p s
  | .romNVANS p => Sys2Proof.Machine.execRomNVANS p s
  | .romASON p => Sys2Proof.Machine.execRomASON p s
  | .romASOF p => Sys2Proof.Machine.execRomASOF p s
  | .romASRQ p => Sys2Proof.Machine.execRomASRQ p s
  | .romPARAN p => Sys2Proof.Machine.execRomPARAN p s
  | .romREVAL p => Sys2Proof.Machine.execRomREVAL p s
  | .romARSON p => Sys2Proof.Machine.execRomARSON p s
  | .romARSOF p => Sys2Proof.Machine.execRomARSOF p s
  | .romEXTC3 p => Sys2Proof.Machine.execRomEXTC3 p s
  | .romRDCC4 p => Sys2Proof.Machine.execRomRDCC4 p s
  | .romWCVS p => Sys2Proof.Machine.execRomWCVS p s
  | .romACON1 p => Sys2Proof.Machine.execRomACON1 p s
  | .romACOF1 p => Sys2Proof.Machine.execRomACOF1 p s
  | .romREQEV p => Sys2Proof.Machine.execRomREQEV p s
  | .romARON1 p => Sys2Proof.Machine.execRomARON1 p s
  | .romAROF1 p => Sys2Proof.Machine.execRomAROF1 p s
  | .romNEVAL p => Sys2Proof.Machine.execRomNEVAL p s
  | .romPNN p => Sys2Proof.Machine.execRomPNN p s
  | .romASON1 p => Sys2Proof.Machine.execRomASON1 p s
  | .romASOF1 p => Sys2Proof.Machine.execRomASOF1 p s
  | .romARSON1 p => Sys2Proof.Machine.execRomARSON1 p s
  | .romARSOF1 p => Sys2Proof.Machine.execRomARSOF1 p s
  | .romEXTC4 p => Sys2Proof.Machine.execRomEXTC4 p s
  | .romRDCC5 p => Sys2Proof.Machine.execRomRDCC5 p s
  | .romWCVOA p => Sys2Proof.Machine.execRomWCVOA p s
  | .romCABDAT p => Sys2Proof.Machine.execRomCABDAT p s
  | .romFCLK p => Sys2Proof.Machine.execRomFCLK p s
  | .romACON2 p => Sys2Proof.Machine.execRomACON2 p s
  | .romACOF2 p => Sys2Proof.Machine.execRomACOF2 p s
  | .romEVLRN p => Sys2Proof.Machine.execRomEVLRN p s
  | .romEVANS p => Sys2Proof.Machine.execRomEVANS p s
  | .romARON2 p => Sys2Proof.Machine.execRomARON2 p s
  | .romAROF2 p => Sys2Proof.Machine.execRomAROF2 p s
  | .romASON2 p => Sys2Proof.Machine.execRomASON2 p s
  | .romASOF2 p => Sys2Proof.Machine.execRomASOF2 p s
  | .romARSON2 p => Sys2Proof.Machine.execRomARSON2 p s
  | .romARSOF2 p => Sys2Proof.Machine.execRomARSOF2 p s
  | .romEXTC5 p => Sys2Proof.Machine.execRomEXTC5 p s
  | .romRDCC6 p => Sys2Proof.Machine.execRomRDCC6 p s
  | .romPLOC p => Sys2Proof.Machine.execRomPLOC p s
  | .romNAME p => Sys2Proof.Machine.execRomNAME p s
  | .romSTAT p => Sys2Proof.Machine.execRomSTAT p s
  | .romPARAMS p => Sys2Proof.Machine.execRomPARAMS p s
  | .romACON3 p => Sys2Proof.Machine.execRomACON3 p s
  | .romACOF3 p => Sys2Proof.Machine.execRomACOF3 p s
  | .romENRSP p => Sys2Proof.Machine.execRomENRSP p s
  | .romARON3 p => Sys2Proof.Machine.execRomARON3 p s
  | .romAROF3 p => Sys2Proof.Machine.execRomAROF3 p s
  | .romEVLRNI p => Sys2Proof.Machine.execRomEVLRNI p s
  | .romACDAT p => Sys2Proof.Machine.execRomACDAT p s
  | .romARDAT p => Sys2Proof.Machine.execRomARDAT p s
  | .romASON3 p => Sys2Proof.Machine.execRomASON3 p s
  | .romASOF3 p => Sys2Proof.Machine.execRomASOF3 p s
  | .romDDES p => Sys2Proof.Machine.execRomDDES p s
  | .romDDRS p => Sys2Proof.Machine.execRomDDRS p s
  | .romARSON3 p => Sys2Proof.Machine.execRomARSON3 p s
  | .romARSOF3 p => Sys2Proof.Machine.execRomARSOF3 p s
  | .romEXTC6 p => Sys2Proof.Machine.execRomEXTC6 p s

end Machine
end Sys2Proof
end

