-- ==== Sys2Proof/Machine/Fetch.lean ====
section
/-! DEFINITION. Taking a transaction from the ports (10_state.md R22): what step calls. -/

namespace Sys2Proof
namespace Machine

/-- The host's presentation is taken off the ports. -/
def State.takeTransaction (rest : List (List Byte)) (s : State) : State := { s with host := rest }

/-- One transaction: decode the presented bytes and run the instruction. -/
def runTransaction (bytes : List Byte) (s : State) : Host.Outcome State Fault Refusal :=
  match decode bytes with
  | .ok (i, _) => exec i s
  | .error r => .refused (.undecodable r)

/-- The core with whatever the host presents: nothing presented changes nothing (R228: "Between operations the core holds no
state but the ROM"; log 11). -/
def runPresented (s : State) : Host.Outcome State Fault Refusal :=
  match s.host with
  | [] => .next s
  | bytes :: rest => runTransaction bytes (s.takeTransaction rest)

end Machine
end Sys2Proof
end

