-- ==== Sys2Proof/Machine/Step.lean ====
section
/-! DEFINITION. One step of the machine: one transaction (10_state.md R22, 70_reset_and_hazards.md R256). -/

namespace Sys2Proof
namespace Machine

/-- One step. -/
def step (s : State) : Host.Outcome State Fault Refusal := runPresented s

/-- `s` with the transaction whose bits are `w` presented next. -/
def State.withFetchWord (s : State) (nbits w : Nat) : State :=
  { s with host := transactionOfWord nbits w :: s.host }

end Machine
end Sys2Proof
end

