-- ==== Sys2Proof/Machine/Shape.lean ====
section
/-! DEFINITION. The declarative definition of FRM.SCAN (46_frame_scanner.md R180 to R182), which is the normative one: the shape
matches of a buffer, leftmost and not overlapping, and the frames they emit. The machine runs the tokenizer of
Machine/Scan.lean; statements compare the two (R185). -/

namespace Sys2Proof
namespace Machine

/-- A shape match (R181): its place, its four header digits, its mode bit and its message digits. -/
structure ShapeMatch where
  start : Nat
  stop  : Nat
  d0    : Nibble
  d1    : Nibble
  d2    : Nibble
  d3    : Nibble
  rtr   : Bool
  dg    : List Nibble
deriving DecidableEq, Repr

/-- The hexadecimal digits a sequence begins with, as far as they go, and the rest (R181). -/
def digitRun : List Byte → List Nibble × List Byte
  | [] => ([], [])
  | c :: rest =>
    match Bits.hexval c with
    | some d => (d :: (digitRun rest).1, (digitRun rest).2)
    | none => ([], c :: rest)

/-- The shape match that begins at the first byte of `buf`, which stands at index `at0` (R181): the digits run on as far as
hex digits go, there is at least one, and the byte after them is `';'`. -/
def matchAt (at0 : Nat) (buf : List Byte) : Option ShapeMatch :=
  match buf with
  | c :: s :: x0 :: x1 :: x2 :: x3 :: m :: rest =>
    match Bits.hexval x0, Bits.hexval x1, Bits.hexval x2, Bits.hexval x3, rtrOfMode m, digitRun rest with
    | some d0, some d1, some d2, some d3, some rtr, (dg, e :: _) =>
      if c = Bits.colon ∧ s = Bits.charS ∧ dg ≠ [] ∧ e = Bits.semicolon then
        some { start := at0, stop := at0 + 8 + dg.length, d0 := d0, d1 := d1, d2 := d2, d3 := d3, rtr := rtr, dg := dg }
      else none
    | _, _, _, _, _, _ => none
  | _ => none

/-- `ShapeMatches` (R182) of the bytes from index `at0` on, the first `skip` of which lie in a match already found. -/
def shapeMatchesFrom (at0 skip : Nat) : List Byte → List ShapeMatch
  | [] => []
  | c :: rest =>
    match skip with
    | k + 1 => shapeMatchesFrom (at0 + 1) k rest
    | 0 =>
      match matchAt at0 (c :: rest) with
      | some m => m :: shapeMatchesFrom (at0 + 1) (m.stop - at0 - 1) rest
      | none => shapeMatchesFrom (at0 + 1) 0 rest

/-- `ShapeMatches(buf)` (R182). -/
def shapeMatches (buf : List Byte) : List ShapeMatch := shapeMatchesFrom 0 0 buf

/-- `Emit` of a shape match (R186). -/
def ShapeMatch.emit (rom : Rom) (m : ShapeMatch) : Except DropReason Frame :=
  Machine.emit rom m.d0 m.d1 m.d2 m.d3 m.rtr m.dg

/-- The frames of a buffer, by the declarative definition (R180). -/
def framesOf (rom : Rom) (buf : List Byte) : List Frame := (shapeMatches buf).flatMap fun m => emitted (m.emit rom)

/-- The spans of a buffer (R190), by the declarative definition. -/
def spansOf (rom : Rom) (buf : List Byte) : List Span :=
  (shapeMatches buf).map fun m => { start := m.start, stop := m.stop, outcome := spanOutcome (m.emit rom) }

end Machine
end Sys2Proof
end

