-- ==== Sys2Proof/Safety.lean ====
section
/-! DEFINITION. The terms statements are made in: what an operation leaves behind, the invariant every step keeps, the shape of a
frame as a grammar, and the host's keeping rule. No step uses this file. -/

namespace Sys2Proof
namespace Machine

/-- The outcome is the operation's result `r` with `err = OK` (R23), every other port silent, and nothing else of the state
changed: the frame of an operation that only answers. -/
def Answers (s : State) (o : Host.Outcome State Fault Refusal) (r : Result) : Prop :=
  o = .next { s with
    res := some r, err := some .ok, inStream := [], frameOut := [], spanOut := [], outStream := [] }

/-- The outcome is the error kind `k` and no result (R26, R214), and nothing else of the state changed. -/
def Raises (s : State) (o : Host.Outcome State Fault Refusal) (k : ErrKind) : Prop :=
  o = .next { s with
    res := none, err := some (.kind k), inStream := [], frameOut := [], spanOut := [], outStream := [] }

/-- The outcome is the ASCII bytes `bs`, on `res` and byte by byte on `out_byte` (R22, R25), the serializer's index back at 0,
and nothing else of the state changed. -/
def PutsAscii (s : State) (o : Host.Outcome State Fault Refusal) (bs : List Byte) : Prop :=
  o = .next { s with
    res := some (.ascii bs), err := some .ok, inStream := [], frameOut := [], spanOut := [],
    outStream := beats bs, serIdx := 0 }

/-- The outcome is the frames `fs` and the spans `sp` of the buffer `buf` (R22, R180, R190), the scanner cleared (R24, R191),
and nothing else of the state changed. -/
def ScansTo (s : State) (o : Host.Outcome State Fault Refusal) (buf : List Byte) (fs : List Frame) (sp : List Span) : Prop :=
  o = .next { s with
    res := some (.frames fs), err := some .ok, inStream := beats buf, frameOut := fs, spanOut := sp, outStream := [],
    scn := Scanner.cleared }

/-- `CATALOG(v)` is present (R15). -/
def Present (s : State) (v : Byte) : Prop := (romRead s.rom v).isSome = true

/-- The character `c` is the upper-case hexadecimal digit of `n` (R62). -/
def IsUpperHex (c : Byte) (n : Nat) : Prop := c.toNat = if n ≤ 9 then 0x30 + n else 0x37 + n

/-- `text` is the bytes `bs` in hexadecimal: two upper-case digits for each byte, in order, high nibble first (R37, R62). -/
def IsHexOf (text bs : List Byte) : Prop :=
  text.length = 2 * bs.length ∧
    ∀ i b, bs[i]? = some b →
      ∃ c d, text[2 * i]? = some c ∧ text[2 * i + 1]? = some d ∧
        IsUpperHex c (b.toNat / 16) ∧ IsUpperHex d (b.toNat % 16)

/-- The grammar of the shape (R58, R181): `':' 'S' hex hex hex hex mode hex+ ';'`. -/
def IsShape (w : List Byte) : Prop :=
  ∃ x0 x1 x2 x3 m dg,
    w = [0x3A#8, 0x53#8, x0, x1, x2, x3, m] ++ dg ++ [0x3B#8] ∧
      (∀ x ∈ [x0, x1, x2, x3], Bits.ishex x = true) ∧ (m = 0x4E#8 ∨ m = 0x52#8) ∧
        dg ≠ [] ∧ (∀ x ∈ dg, Bits.ishex x = true)

/-- Bytes `s` to `e - 1` of a buffer (R6, `s[i..j]`). -/
def slice (buf : List Byte) (s e : Nat) : List Byte := (buf.drop s).take (e - s)

/-- The message of the frame is there and is a message of the ROM (R13, R187). -/
def Frame.carriesMessage (rom : Rom) (f : Frame) : Bool :=
  match f.message with
  | none => false
  | some m => m.lengthOk && romPresent rom m.op

/-- What the rules say of a value on the result port: F-PRI's low bits zero (R51), the register form's low bits zero (R53), the
identifier within 11 bits (R97), 2 to 24 ASCII bytes (R30), a descriptor of the ROM (R118), messages of the ROM (R130, R187). -/
def Result.valid (rom : Rom) : Result → Bool
  | .pri b => b &&& 0x0F#8 == 0#8
  | .priorities _ _ => true
  | .header _ => true
  | .packed _ lb => lb &&& 0x1F#8 == 0#8
  | .canId top _ => decide (top.toNat < 8)
  | .ascii bs => decide (2 ≤ bs.length) && decide (bs.length ≤ 24) && bs.all fun b => decide (b.toNat < 0x80)
  | .bit _ => true
  | .count _ => true
  | .descriptor d => rom.any fun e => e.2 == d
  | .message m => m.lengthOk && romPresent rom m.op
  | .frames fs => fs.all (Frame.carriesMessage rom)

/-- The frames a result puts on `frame_out`. -/
def Result.framesOut : Result → List Frame
  | .frames fs => fs
  | _ => []

/-- The bytes a result puts on `out_byte`. -/
def Result.bytesOut : Result → List Byte
  | .ascii bs => bs
  | _ => []

/-- The output ports agree with one another and with the rules (R19, R22, R26): no result without `err = OK`, and a result
the rules allow on every port that shows it. -/
def State.portsOk (s : State) : Bool :=
  match s.res with
  | none => s.err != some .ok && s.frameOut == [] && s.spanOut == [] && s.outStream == []
  | some r =>
    s.err == some .ok && r.valid s.rom && s.frameOut == r.framesOut && s.outStream == beats r.bytesOut

/-- The scanner is as R24 says it is at reset and before every scan: IDLE, position 0, no digits, no frames. -/
def Scanner.isClear (scn : Scanner) : Bool :=
  scn.state == .idle && scn.pos == 0 && scn.dig == [] && scn.out == []

/-- The invariant: the ROM's list is canonical and its image valid (R113, R241), the scanner is clear (R24, R191), the
serializer's index is 0 (R25), and the output ports agree (R26, R130). -/
def State.inv (s : State) : Bool :=
  romWf s.rom && romCheck s.rom && s.scn.isClear && s.serIdx == 0 && s.portsOk

/-- The output ports of two states show the same. -/
def SamePorts (s t : State) : Prop :=
  s.res = t.res ∧ s.err = t.err ∧ s.inStream = t.inStream ∧ s.frameOut = t.frameOut ∧ s.spanOut = t.spanOut ∧
    s.outStream = t.outStream

/-- Two outcomes of which nothing the host sees differs: both a next state with the same ports, or the same refusal. -/
def SameOutcome : Host.Outcome State Fault Refusal → Host.Outcome State Fault Refusal → Prop
  | .next s, .next t => SamePorts s t
  | .refused r, .refused r' => r = r'
  | .fault f, .fault f' => f = f'
  | _, _ => False

/-- The host's keeping rule (R246): the bytes from the last `':'` on if no `';'` follows it, else nothing. -/
def hostKeeps : List Byte → List Byte
  | [] => []
  | c :: rest =>
    if c = 0x3A#8 ∧ 0x3A#8 ∉ rest then (if 0x3B#8 ∈ rest then [] else c :: rest) else hostKeeps rest

/-- The frames a host gets that scans read after read and keeps bytes by that rule (R246): `kept` goes before the next read.
None when a scan does not answer. -/
def hostScans (s : State) (kept : List Byte) : List (List Byte) → Option (List Frame)
  | [] => some []
  | r :: rs =>
    match exec (.frmScan (kept ++ r)) s with
    | .next t => (hostScans t (hostKeeps (kept ++ r)) rs).map (t.frameOut ++ ·)
    | _ => none

/-- The row's transaction begins with the operation code `c` (R70), which is the word the table gives the row. (That the word is
byte 0 of the presented bytes is log 1.) -/
def HasCode (i : Instr) (c : Byte) : Prop := (encode i).head? = some c

/-- The error kinds each of the 24 operations can return (R23, R210). The other rows of the table are not operations, and the
rule's table says nothing of them: all five. -/
def errorsOf : Instr → List ErrKind
  | .priPack _ _ => []
  | .priUnpack _ => []
  | .hdrEnc _ _ _ => [.invalidIdentifier]
  | .hdrDec _ => [.insufficientData]
  | .hdrReg _ => []
  | .hdrCanid _ => []
  | .hdrAscii _ => []
  | .hdrEq _ _ => []
  | .catLen _ => []
  | .catLookup _ => [.unknownOpcode]
  | .catCheck => []
  | .msgNew _ _ => [.payloadLengthMismatch]
  | .msgDec _ => [.emptyInput, .unknownOpcode, .payloadLengthMismatch]
  | .msgHex _ => []
  | .msgEq _ _ => []
  | .pkEng _ _ _ _ _ _ _ _ => [.payloadLengthMismatch]
  | .pkAlev _ _ _ => [.payloadLengthMismatch]
  | .pkCsrpt _ _ _ _ _ _ _ => [.payloadLengthMismatch]
  | .pkName _ _ => [.payloadLengthMismatch]
  | .pkU16 _ _ => [.payloadLengthMismatch]
  | .pkU8 _ _ => [.payloadLengthMismatch]
  | .frmEnc _ => []
  | .frmScan _ => []
  | .frmEq _ _ => []
  | _ => [.invalidIdentifier, .insufficientData, .emptyInput, .unknownOpcode, .payloadLengthMismatch]

end Machine
end Sys2Proof
end

