-- ==== Sys2Proof/Certificates/Slice0/Obligations.lean ====
section
/-! DEFINITION. The statements for the provers. `Answers`, `Raises`, `PutsAscii` and `ScansTo` (Safety.lean) each give the whole next
state, so a statement made with one of them also says what the operation leaves unchanged: the ROM, the scanner's registers,
the serializer's index, the host's queue, and every port it does not set. -/

open Sys2Proof Sys2Proof.Machine

/-! Unit PRI -/

/-- R81: PRI.PACK has code 0x00 and answers `(major << 6) | (minor << 4)`, bits 3..0 zero, for every operand in every state. -/
def Obligations.PriPackPutsFieldsInPlace : Prop :=
  ∀ (major minor : BitVec 2) (s : State),
    HasCode (.priPack major minor) 0x00 ∧
      ∃ pri : Byte, pri.toNat = 64 * major.toNat + 16 * minor.toNat ∧
        Answers s (exec (.priPack major minor) s) (.pri pri)

/-- R82: PRI.UNPACK has code 0x01 and answers bits 7:6 and 5:4, on every byte, in every state. -/
def Obligations.PriUnpackReadsFields : Prop :=
  ∀ (b : Byte) (s : State),
    HasCode (.priUnpack b) 0x01 ∧
      ∃ major minor : BitVec 2, major.toNat = b.toNat / 64 ∧ minor.toNat = b.toNat / 16 % 4 ∧
        Answers s (exec (.priUnpack b) s) (.priorities major minor)

/-- R83, an inference the spec marks as its own: unpacking a packed pair gives the pair; packing an unpacked byte gives the
byte with bits 3..0 cleared. -/
def Obligations.PriPackAndUnpackAreInverse : Prop :=
  (∀ (major minor : BitVec 2) (s : State), ∃ t pri,
    exec (.priPack major minor) s = .next t ∧ t.res = some (.pri pri) ∧
      Answers t (exec (.priUnpack pri) t) (.priorities major minor)) ∧
  (∀ (b : Byte) (s : State), ∃ t major minor,
    exec (.priUnpack b) s = .next t ∧ t.res = some (.priorities major minor) ∧
      Answers t (exec (.priPack major minor) t) (.pri (b &&& 0xF0#8)))

/-! Unit HDR -/

/-- R91, at the operand's default width of 16 bits (log 8): HDR.ENC has code 0x02; a source id up to 127 gives the header of
the three numbers, with the packed bytes of the rule's formulas; any larger value of the whole operand gives InvalidIdentifier
and no header. -/
def Obligations.HdrEncBuildsOrRejects : Prop :=
  ∀ (major minor : BitVec 2) (sidIn : BitVec 16) (s : State),
    HasCode (.hdrEnc major minor sidIn) 0x02 ∧
    (sidIn.toNat ≤ 127 → ∃ h : Header,
      h.major = major ∧ h.minor = minor ∧ h.sid.toNat = sidIn.toNat ∧
        (Bits.highByte h).toNat = 64 * major.toNat + 16 * minor.toNat + sidIn.toNat / 8 ∧
        (Bits.lowByte h).toNat = 32 * (sidIn.toNat % 8) ∧
        Answers s (exec (.hdrEnc major minor sidIn) s) (.header h)) ∧
    (127 < sidIn.toNat → Raises s (exec (.hdrEnc major minor sidIn) s) .invalidIdentifier)

/-- R93: HDR.DEC has code 0x03; every pair of bytes decodes by the rule's formulas; fewer than two bytes give
InsufficientData; more than two are refused. -/
def Obligations.HdrDecDecodesTwoBytes : Prop :=
  (∀ (bs : List Byte), HasCode (.hdrDec bs) 0x03) ∧
  (∀ (hb lb : Byte) (s : State), ∃ h : Header,
    h.major.toNat = hb.toNat / 64 ∧ h.minor.toNat = hb.toNat / 16 % 4 ∧
      h.sid.toNat = 8 * (hb.toNat % 16) + lb.toNat / 32 ∧
      Answers s (exec (.hdrDec [hb, lb]) s) (.header h)) ∧
  (∀ (bs : List Byte) (s : State), bs.length < 2 → Raises s (exec (.hdrDec bs) s) .insufficientData) ∧
  (∀ (bs : List Byte) (s : State), 2 < bs.length → exec (.hdrDec bs) s = .refused .operandTooLong)

/-- R96: HDR.REG has code 0x04 and answers the two packed bytes of any header. -/
def Obligations.HdrRegGivesPackedBytes : Prop :=
  ∀ (h : Header) (s : State),
    HasCode (.hdrReg h) 0x04 ∧
      ∃ hb lb : Byte, hb.toNat = 64 * h.major.toNat + 16 * h.minor.toNat + h.sid.toNat / 8 ∧
        lb.toNat = 32 * (h.sid.toNat % 8) ∧ Answers s (exec (.hdrReg h) s) (.packed hb lb)

/-- R97, whose second byte is "this spec's choice" (D7): HDR.CANID has code 0x05 and answers `top = hb >> 5`, `low = ((hb &
0x1F) << 3) | (lb >> 5)`, and `(top << 8) | low` is `(major << 9) | (minor << 7) | sid`. -/
def Obligations.HdrCanidGivesElevenBits : Prop :=
  ∀ (h : Header) (s : State),
    HasCode (.hdrCanid h) 0x05 ∧
      ∃ top low : Byte, top.toNat = (Bits.highByte h).toNat / 32 ∧
        low.toNat = 8 * ((Bits.highByte h).toNat % 32) + (Bits.lowByte h).toNat / 32 ∧ top.toNat ≤ 7 ∧
        256 * top.toNat + low.toNat = 512 * h.major.toNat + 128 * h.minor.toNat + h.sid.toNat ∧
        Answers s (exec (.hdrCanid h) s) (.canId top low)

/-- R98: HDR.ASCII has code 0x06 and puts out the four upper-case digits of the packed bytes, high byte first. -/
def Obligations.HdrAsciiPutsFourDigits : Prop :=
  ∀ (h : Header) (s : State),
    HasCode (.hdrAscii h) 0x06 ∧
      ∃ text, text.length = 4 ∧ IsHexOf text [Bits.highByte h, Bits.lowByte h] ∧
        PutsAscii s (exec (.hdrAscii h) s) text

/-- R99: HDR.EQ has code 0x07 and answers whether the packed bytes are equal, and that is whether the headers are equal:
distinct headers have distinct packed bytes (R100, an inference the spec marks as its own). -/
def Obligations.HdrEqComparesPackedBytes : Prop :=
  ∀ (h1 h2 : Header) (s : State),
    HasCode (.hdrEq h1 h2) 0x07 ∧
      ∃ b : Bool, Answers s (exec (.hdrEq h1 h2) s) (.bit b) ∧
        (b = true ↔ Bits.highByte h1 = Bits.highByte h2 ∧ Bits.lowByte h1 = Bits.lowByte h2) ∧
        (Bits.highByte h1 = Bits.highByte h2 ∧ Bits.lowByte h1 = Bits.lowByte h2 ↔ h1 = h2)

/-- R92, an inference the spec marks as its own: encoding a header, taking its register form and decoding it gives the header
back, with the three numbers it was made of, for `major = 3` as well. -/
def Obligations.HeaderRoundTripsThroughRegisterForm : Prop :=
  ∀ (major minor : BitVec 2) (sidIn : BitVec 16) (s : State), sidIn.toNat ≤ 127 →
    ∃ t u h hb lb,
      exec (.hdrEnc major minor sidIn) s = .next t ∧ t.res = some (.header h) ∧
      exec (.hdrReg h) t = .next u ∧ u.res = some (.packed hb lb) ∧
      Answers u (exec (.hdrDec [hb, lb]) u) (.header h) ∧
      h.major = major ∧ h.minor = minor ∧ h.sid.toNat = sidIn.toNat

/-- R94, an inference the spec marks as its own: the register form of a decoded header is the bytes it was decoded from, with
bits 4..0 of the second cleared. -/
def Obligations.ReencodingClearsLowBits : Prop :=
  ∀ (hb lb : Byte) (s : State), ∃ t h,
    exec (.hdrDec [hb, lb]) s = .next t ∧ t.res = some (.header h) ∧
      Answers t (exec (.hdrReg h) t) (.packed hb (lb &&& 0xE0#8))

/-! Unit CAT -/

/-- R111: CAT.LEN has code 0x08 and answers `v >> 5` for every value, whatever the ROM holds. -/
def Obligations.CatLenIsTopThreeBits : Prop :=
  ∀ (v : Byte) (s : State),
    HasCode (.catLen v) 0x08 ∧
      ∃ n : BitVec 3, n.toNat = v.toNat / 32 ∧ Answers s (exec (.catLen v) s) (.count n)

/-- R118: over a valid image CAT.LOOKUP (code 0x09) answers the descriptor at `v`, whose byte count is `v >> 5`, and
UnknownOpcode where the location is empty. -/
def Obligations.CatLookupReadsTheRom : Prop :=
  ∀ (v : Byte) (s : State), romCheck s.rom = true →
    HasCode (.catLookup v) 0x09 ∧
    (∀ d, romRead s.rom v = some d →
      d.byteCount.toNat = v.toNat / 32 ∧ Answers s (exec (.catLookup v) s) (.descriptor d)) ∧
    (romRead s.rom v = none → Raises s (exec (.catLookup v) s) .unknownOpcode)

/-- R119: CAT.CHECK (code 0x0A) answers in every state, and its bit is 1 exactly when every present entry stores
`byte_count = v >> 5` (over a ROM list in canonical form, in which each entry is what its address reads as). -/
def Obligations.CatCheckTestsEveryEntry : Prop :=
  ∀ (s : State), HasCode .catCheck 0x0A ∧
    ∃ b : Bool, Answers s (exec .catCheck s) (.bit b) ∧
      (romWf s.rom = true →
        (b = true ↔ ∀ v d, romRead s.rom v = some d → d.byteCount.toNat = v.toNat / 32))

/-- R241, and the model's choice of log 12 to refuse: over an image CAT.CHECK rejects, every operation that reads the ROM
gets no meaning. -/
def Obligations.InvalidImageIsRefused : Prop :=
  ∀ (s : State), romCheck s.rom = false →
    (∀ v, exec (.catLookup v) s = .refused .romImageInvalid) ∧
    (∀ v p, exec (.msgNew v p) s = .refused .romImageInvalid) ∧
    (∀ bs, exec (.msgDec bs) s = .refused .romImageInvalid) ∧
    (∀ v a b c d e f g, exec (.pkEng v a b c d e f g) s = .refused .romImageInvalid) ∧
    (∀ v a b, exec (.pkAlev v a b) s = .refused .romImageInvalid) ∧
    (∀ v a b c d e f, exec (.pkCsrpt v a b c d e f) s = .refused .romImageInvalid) ∧
    (∀ v n, Instr.nameOk n = true → exec (.pkName v n) s = .refused .romImageInvalid) ∧
    (∀ v n, exec (.pkU16 v n) s = .refused .romImageInvalid) ∧
    (∀ v n, exec (.pkU8 v n) s = .refused .romImageInvalid) ∧
    (∀ buf, exec (.frmScan buf) s = .refused .romImageInvalid)

/-! Unit MSG -/

/-- R131, R132: over a valid image and a present opcode MSG.NEW (code 0x0B) answers the message when the payload has `v >> 5`
bytes, PayloadLengthMismatch for every other length, and the zero-filled message when the payload is omitted. -/
def Obligations.MsgNewChecksTheLength : Prop :=
  ∀ (v : Byte) (s : State), romCheck s.rom = true → Present s v →
    (∀ p, HasCode (.msgNew v p) 0x0B) ∧
    (∀ p, p.length = v.toNat / 32 →
      Answers s (exec (.msgNew v (some p)) s) (.message { op := v, payload := p })) ∧
    (∀ p, p.length ≠ v.toNat / 32 → Raises s (exec (.msgNew v (some p)) s) .payloadLengthMismatch) ∧
    Answers s (exec (.msgNew v none) s) (.message { op := v, payload := List.replicate (v.toNat / 32) 0x00#8 })

/-- From R131 and R150 ("a model takes CATALOG(v) != absent as a precondition and refuses otherwise"): MSG.NEW and the six
packers refuse an absent opcode. -/
def Obligations.AbsentOpcodeIsRefused : Prop :=
  ∀ (v : Byte) (s : State), romCheck s.rom = true → ¬ Present s v →
    (∀ p, exec (.msgNew v p) s = .refused (.opcodeAbsent v)) ∧
    (∀ a b c d e f g, exec (.pkEng v a b c d e f g) s = .refused (.opcodeAbsent v)) ∧
    (∀ a b, exec (.pkAlev v a b) s = .refused (.opcodeAbsent v)) ∧
    (∀ a b c d e f, exec (.pkCsrpt v a b c d e f) s = .refused (.opcodeAbsent v)) ∧
    (∀ n, Instr.nameOk n = true → exec (.pkName v n) s = .refused (.opcodeAbsent v)) ∧
    (∀ n, exec (.pkU16 v n) s = .refused (.opcodeAbsent v)) ∧
    (∀ n, exec (.pkU8 v n) s = .refused (.opcodeAbsent v))

/-- R133: over a valid image MSG.DEC (code 0x0C) tests in order: no bytes, EmptyInput; the first byte absent from the ROM,
UnknownOpcode whatever the length; the rest not `v >> 5` bytes, PayloadLengthMismatch; else the message. -/
def Obligations.MsgDecTestsInOrder : Prop :=
  ∀ (s : State), romCheck s.rom = true →
    (∀ bs, HasCode (.msgDec bs) 0x0C) ∧
    Raises s (exec (.msgDec []) s) .emptyInput ∧
    ∀ (v : Byte) (p : List Byte),
      (¬ Present s v → Raises s (exec (.msgDec (v :: p)) s) .unknownOpcode) ∧
      (Present s v → p.length ≠ v.toNat / 32 → Raises s (exec (.msgDec (v :: p)) s) .payloadLengthMismatch) ∧
      (Present s v → p.length = v.toNat / 32 →
        Answers s (exec (.msgDec (v :: p)) s) (.message { op := v, payload := p }))

/-- R134, an inference the spec marks as its own: decoding the opcode byte and a payload of its length is constructing the
message, and both succeed; and a message that was decoded has the bytes it was decoded from. -/
def Obligations.MsgDecInvertsBinaryForm : Prop :=
  (∀ (v : Byte) (p : List Byte) (s : State), romCheck s.rom = true → Present s v → p.length = v.toNat / 32 →
    ∃ t, exec (.msgDec (v :: p)) s = .next t ∧ exec (.msgNew v (some p)) s = .next t ∧
      t.res = some (.message { op := v, payload := p })) ∧
  (∀ (bs : List Byte) (m : Message) (s t : State), exec (.msgDec bs) s = .next t → t.res = some (.message m) →
    m.bytes = bs)

/-- R135: MSG.HEX (code 0x0D) puts out the opcode byte and the payload bytes as two upper-case digits each,
`2 * (1 + (op >> 5))` in all, and does not read the ROM. -/
def Obligations.MsgHexPutsTwoDigitsPerByte : Prop :=
  ∀ (m : Message) (s : State), m.lengthOk = true →
    HasCode (.msgHex m) 0x0D ∧
      ∃ text, IsHexOf text (m.op :: m.payload) ∧ text.length = 2 * (1 + m.op.toNat / 32) ∧
        PutsAscii s (exec (.msgHex m) s) text

/-- R136: MSG.EQ (code 0x0E) answers whether opcode and payload bytes are equal, which is whether the binary forms are (the rule
marks the second clause derived from R130). -/
def Obligations.MsgEqComparesBytes : Prop :=
  ∀ (m1 m2 : Message) (s : State), m1.lengthOk = true → m2.lengthOk = true →
    HasCode (.msgEq m1 m2) 0x0E ∧
      ∃ b : Bool, Answers s (exec (.msgEq m1 m2) s) (.bit b) ∧
        (b = true ↔ m1.op = m2.op ∧ m1.payload = m2.payload) ∧ (b = true ↔ m1.bytes = m2.bytes)

/-- From R13 (a value that breaks the length invariant "is not a message") and the model's choice of log 16 to refuse it: the
operations that take a Message or a Frame refuse such an operand, whichever of their operands it is. -/
def Obligations.NotAMessageIsRefused : Prop :=
  ∀ (m : Message) (s : State), m.lengthOk = false →
    exec (.msgHex m) s = .refused .notAMessage ∧
    (∀ m2, exec (.msgEq m m2) s = .refused .notAMessage) ∧
    (∀ m1, exec (.msgEq m1 m) s = .refused .notAMessage) ∧
    (∀ h rtr, exec (.frmEnc { header := h, message := some m, rtr := rtr }) s = .refused .notAMessage) ∧
    (∀ h rtr f2, exec (.frmEq { header := h, message := some m, rtr := rtr } f2) s = .refused .notAMessage) ∧
    (∀ f1 h rtr, exec (.frmEq f1 { header := h, message := some m, rtr := rtr }) s = .refused .notAMessage)

/-! Unit PK -/

/-- R151: PK.ENG (code 0x10), over a valid image and a present opcode of length 7, answers the message of the engine report's
seven bytes, bit 7 of `speed` discarded and an omitted function byte 0x00; any other length is PayloadLengthMismatch. -/
def Obligations.PkEngPacksEngineReport : Prop :=
  ∀ (v session : Byte) (addr : BitVec 16) (speed : Byte) (dir : BitVec 1) (f1 f2 f3 : Option Byte) (s : State),
    romCheck s.rom = true → Present s v →
    HasCode (.pkEng v session addr speed dir f1 f2 f3) 0x10 ∧
    (v.toNat / 32 = 7 → ∃ a1 a0 sd : Byte,
      a1.toNat = addr.toNat / 256 ∧ a0.toNat = addr.toNat % 256 ∧ sd.toNat = 128 * dir.toNat + speed.toNat % 128 ∧
        Answers s (exec (.pkEng v session addr speed dir f1 f2 f3) s)
          (.message { op := v, payload := [session, a1, a0, sd, f1.getD 0x00#8, f2.getD 0x00#8, f3.getD 0x00#8] })) ∧
    (v.toNat / 32 ≠ 7 → Raises s (exec (.pkEng v session addr speed dir f1 f2 f3) s) .payloadLengthMismatch)

/-- R152: PK.ALEV (code 0x11) packs node and event, big-endian, at an opcode of length 4. -/
def Obligations.PkAlevPacksNodeAndEvent : Prop :=
  ∀ (v : Byte) (node event : BitVec 16) (s : State), romCheck s.rom = true → Present s v →
    HasCode (.pkAlev v node event) 0x11 ∧
    (v.toNat / 32 = 4 → ∃ n1 n0 e1 e0 : Byte,
      n1.toNat = node.toNat / 256 ∧ n0.toNat = node.toNat % 256 ∧
        e1.toNat = event.toNat / 256 ∧ e0.toNat = event.toNat % 256 ∧
        Answers s (exec (.pkAlev v node event) s) (.message { op := v, payload := [n1, n0, e1, e0] })) ∧
    (v.toNat / 32 ≠ 4 → Raises s (exec (.pkAlev v node event) s) .payloadLengthMismatch)

/-- R153: PK.CSRPT (code 0x12) packs node (big-endian), the four single bytes in order and the build byte, 0x00 when omitted,
at an opcode of length 7. -/
def Obligations.PkCsrptPacksStationReport : Prop :=
  ∀ (v : Byte) (node : BitVec 16) (cs flags majorRev minorRev : Byte) (build : Option Byte) (s : State),
    romCheck s.rom = true → Present s v →
    HasCode (.pkCsrpt v node cs flags majorRev minorRev build) 0x12 ∧
    (v.toNat / 32 = 7 → ∃ n1 n0 : Byte, n1.toNat = node.toNat / 256 ∧ n0.toNat = node.toNat % 256 ∧
      Answers s (exec (.pkCsrpt v node cs flags majorRev minorRev build) s)
        (.message { op := v, payload := [n1, n0, cs, flags, majorRev, minorRev, build.getD 0x00#8] })) ∧
    (v.toNat / 32 ≠ 7 →
      Raises s (exec (.pkCsrpt v node cs flags majorRev minorRev build) s) .payloadLengthMismatch)

/-- R154: PK.NAME (code 0x13), at an opcode of length 7, packs the first seven bytes of a name of seven or more, and a shorter
one with NAME_PAD on its left up to seven; a name with a byte of 0x80 or above is refused. -/
def Obligations.PkNameTruncatesOrPads : Prop :=
  ∀ (v : Byte) (name : List Byte) (s : State),
    HasCode (.pkName v name) 0x13 ∧
    ((∃ b ∈ name, 0x80 ≤ b.toNat) → exec (.pkName v name) s = .refused .nameNotAscii) ∧
    (romCheck s.rom = true → Present s v → (∀ b ∈ name, b.toNat < 0x80) →
      (v.toNat / 32 = 7 → 7 ≤ name.length →
        Answers s (exec (.pkName v name) s) (.message { op := v, payload := name.take 7 })) ∧
      (v.toNat / 32 = 7 → name.length < 7 →
        Answers s (exec (.pkName v name) s)
          (.message { op := v, payload := List.replicate (7 - name.length) Config.namePad ++ name })) ∧
      (v.toNat / 32 ≠ 7 → Raises s (exec (.pkName v name) s) .payloadLengthMismatch))

/-- R155, whose layout the spec derives from an example: PK.U16 (code 0x14) packs one big-endian 16-bit number at an opcode of
length 2. -/
def Obligations.PkU16PacksBigEndian : Prop :=
  ∀ (v : Byte) (n : BitVec 16) (s : State), romCheck s.rom = true → Present s v →
    HasCode (.pkU16 v n) 0x14 ∧
    (v.toNat / 32 = 2 → ∃ n1 n0 : Byte, n1.toNat = n.toNat / 256 ∧ n0.toNat = n.toNat % 256 ∧
      Answers s (exec (.pkU16 v n) s) (.message { op := v, payload := [n1, n0] })) ∧
    (v.toNat / 32 ≠ 2 → Raises s (exec (.pkU16 v n) s) .payloadLengthMismatch)

/-- R156, whose layout the spec derives from an example: PK.U8 (code 0x15) packs one byte at an opcode of length 1. -/
def Obligations.PkU8PacksOneByte : Prop :=
  ∀ (v n : Byte) (s : State), romCheck s.rom = true → Present s v →
    HasCode (.pkU8 v n) 0x15 ∧
    (v.toNat / 32 = 1 → Answers s (exec (.pkU8 v n) s) (.message { op := v, payload := [n] })) ∧
    (v.toNat / 32 ≠ 1 → Raises s (exec (.pkU8 v n) s) .payloadLengthMismatch)

/-! Units SER and SCN -/

/-- R171: FRM.ENC (code 0x18) puts out `":S"`, the header's four digits, `'R'` or `'N'`, the message's digits (none when it is
absent) and `";"`, for every frame, without reading the ROM. -/
def Obligations.FrmEncRendersTheWireForm : Prop :=
  ∀ (f : Frame) (s : State), f.messageOk = true →
    HasCode (.frmEnc f) 0x18 ∧
      ∃ hd body,
        IsHexOf hd [Bits.highByte f.header, Bits.lowByte f.header] ∧
        IsHexOf body (f.message.elim [] fun m => m.op :: m.payload) ∧
        PutsAscii s (exec (.frmEnc f) s)
          ([0x3A#8, 0x53#8] ++ hd ++ [if f.rtr then 0x52#8 else 0x4E#8] ++ body ++ [0x3B#8])

/-- R172, an inference the spec marks as its own: the rendering is 8 bytes without a message and `8 + 2 * (1 + (op >> 5))`
with one, 24 at most. -/
def Obligations.FrmEncLength : Prop :=
  ∀ (f : Frame) (s : State), f.messageOk = true →
    ∃ bs, PutsAscii s (exec (.frmEnc f) s) bs ∧
      bs.length = f.message.elim 8 (fun m => 8 + 2 * (1 + m.op.toNat / 32)) ∧ bs.length ≤ 24

/-- R175: FRM.EQ (code 0x1A) answers whether headers and messages are equal, absent equal only to absent, and reads no
rtr bit. -/
def Obligations.FrmEqIgnoresRtr : Prop :=
  ∀ (f1 f2 : Frame) (s : State), f1.messageOk = true → f2.messageOk = true →
    HasCode (.frmEq f1 f2) 0x1A ∧
      ∃ b : Bool, Answers s (exec (.frmEq f1 f2) s) (.bit b) ∧
        (b = true ↔ f1.header = f2.header ∧ f1.message = f2.message)

/-- R180: over a valid image FRM.SCAN (code 0x19) answers, on every buffer, the frames that the shape matches of the buffer
emit, left to right, and never an error. -/
def Obligations.FrmScanGivesTheFramesOfTheShapeMatches : Prop :=
  ∀ (buf : List Byte) (s : State), romCheck s.rom = true →
    HasCode (.frmScan buf) 0x19 ∧
      ScansTo s (exec (.frmScan buf) s) buf (framesOf s.rom buf) (spansOf s.rom buf)

/-- R185, an inference the spec marks as its own: on every buffer, from any cleared scanner, whatever its unspecified
registers hold, the byte-serial machine of R184 gives the frames and spans of the declarative definition, one pass for each
byte; and whenever it stands in DN it holds the start and the digits of the shape match that a `';'` would complete. -/
def Obligations.TokenizerAgreesWithShapeMatches : Prop :=
  ∀ (rom : Rom) (buf : List Byte) (scn : Scanner), scn.isClear = true →
    (scanLoop rom buf scn).1.out = framesOf rom buf ∧
    (scanLoop rom buf scn).2 = spansOf rom buf ∧
    (scanLoop rom buf scn).1.pos = buf.length ∧
    ((scanLoop rom buf scn).1.state = .dn →
      ∃ m ∈ shapeMatches (buf ++ [0x3B#8]), m.stop = buf.length + 1 ∧
        m.start = (scanLoop rom buf scn).1.start ∧ m.d0 = (scanLoop rom buf scn).1.hn0 ∧
        m.d1 = (scanLoop rom buf scn).1.hn1 ∧ m.d2 = (scanLoop rom buf scn).1.hn2 ∧
        m.d3 = (scanLoop rom buf scn).1.hn3 ∧ m.rtr = (scanLoop rom buf scn).1.rtr ∧
        m.dg = (scanLoop rom buf scn).1.dig)

/-- R181 and R182, which derives that no two overlap: the shape matches of a buffer are all the places whose bytes have the
shape, each with its digits and mode, in increasing order, no two overlapping. -/
def Obligations.ShapeMatchesAreAllTheShapes : Prop :=
  ∀ (buf : List Byte),
    (∀ s e, (∃ m ∈ shapeMatches buf, m.start = s ∧ m.stop = e) ↔
      s < e ∧ e ≤ buf.length ∧ IsShape (slice buf s e)) ∧
    (∀ m ∈ shapeMatches buf,
      (slice buf (m.start + 2) (m.start + 6)).map Bits.hexval = [some m.d0, some m.d1, some m.d2, some m.d3] ∧
      buf[m.start + 6]? = some (if m.rtr then 0x52#8 else 0x4E#8) ∧
      (slice buf (m.start + 7) (m.stop - 1)).map Bits.hexval = m.dg.map some) ∧
    (shapeMatches buf).Pairwise (fun m1 m2 => m1.stop ≤ m2.start)

/-- R186: Emit drops an odd number of digits, else decodes the bytes the digits make, high nibble first, by the message
codec, and on success gives the frame of the header of the four header digits, that message and the mode bit. -/
def Obligations.EmitDecodesTheDigits : Prop :=
  ∀ (rom : Rom) (d0 d1 d2 d3 : Nibble) (rtr : Bool) (dg : List Nibble),
    (dg.length % 2 = 1 → emit rom d0 d1 d2 d3 rtr dg = .error .oddHexLength) ∧
    (∀ bs : List Byte, dg.map BitVec.toNat = bs.flatMap (fun b => [b.toNat / 16, b.toNat % 16]) →
      (∀ k, messageOf rom bs = .error k → emit rom d0 d1 d2 d3 rtr dg = .error (.codec k)) ∧
      (∀ m, messageOf rom bs = .ok m → ∃ hb lb : Byte,
        hb.toNat = 16 * d0.toNat + d1.toNat ∧ lb.toNat = 16 * d2.toNat + d3.toNat ∧
          emit rom d0 d1 d2 d3 rtr dg = .ok { header := Bits.headerOf hb lb, message := some m, rtr := rtr }))

/-- R193, an inference the spec marks as its own: scanning the concatenation of the renderings of frames with messages of the
ROM gives exactly those frames; and the frames of any scan, rendered and scanned again, are the same list. -/
def Obligations.ScanInvertsRendering : Prop :=
  (∀ (fs : List Frame) (render : Frame → List Byte) (s u : State), romCheck s.rom = true →
    (∀ f ∈ fs, Frame.carriesMessage s.rom f = true ∧ PutsAscii u (exec (.frmEnc f) u) (render f)) →
    ∃ t, exec (.frmScan (fs.flatMap render)) s = .next t ∧ t.res = some (.frames fs)) ∧
  (∀ (buf : List Byte) (render : Frame → List Byte) (s t u : State), exec (.frmScan buf) s = .next t →
    (∀ f ∈ t.frameOut, PutsAscii u (exec (.frmEnc f) u) (render f)) →
    ∃ w, exec (.frmScan (t.frameOut.flatMap render)) s = .next w ∧ w.frameOut = t.frameOut)

/-- From R192, an inference the spec marks as its own: a scan of `a ++ b` is the scan of `a` and then the scan of `b` when no
shape match straddles the boundary, and in particular when the machine is in IDLE after `a`. -/
def Obligations.ScanDistributesOverConcatenation : Prop :=
  ∀ (a b : List Byte) (s : State), romCheck s.rom = true →
    ((∀ m ∈ shapeMatches (a ++ b), ¬ (m.start < a.length ∧ a.length < m.stop)) ∨
      (scanLoop s.rom a Scanner.cleared).1.state = .idle) →
    ∃ t u w, exec (.frmScan a) s = .next t ∧ exec (.frmScan b) t = .next u ∧ exec (.frmScan (a ++ b)) s = .next w ∧
      w.frameOut = t.frameOut ++ u.frameOut

/-- R246, an inference the spec marks as its own: a host that keeps bytes by the rule gets, over any sequence of reads,
exactly the frames of one scan of all the bytes; and a kept candidate of more than 23 bytes can be thrown away. -/
def Obligations.KeepingRuleLosesNoFrame : Prop :=
  (∀ (reads : List (List Byte)) (s : State), romCheck s.rom = true →
    ∃ t, exec (.frmScan reads.flatten) s = .next t ∧ hostScans s [] reads = some t.frameOut) ∧
  (∀ (a b : List Byte) (s : State), romCheck s.rom = true → 23 < (hostKeeps a).length →
    ∃ t u, exec (.frmScan (hostKeeps a ++ b)) s = .next t ∧ exec (.frmScan b) s = .next u ∧
      t.frameOut = u.frameOut)

/-- R194, an inference the spec marks as its own: more than 16 message digits never make a frame: an odd number is dropped for
that, an even one for its opcode or its length. -/
def Obligations.MoreThanSixteenDigitsAreDropped : Prop :=
  ∀ (rom : Rom) (d0 d1 d2 d3 : Nibble) (rtr : Bool) (dg : List Nibble), 16 < dg.length →
    (dg.length % 2 = 1 → emit rom d0 d1 d2 d3 rtr dg = .error .oddHexLength) ∧
    (dg.length % 2 = 0 →
      emit rom d0 d1 d2 d3 rtr dg = .error (.codec .unknownOpcode) ∨
      emit rom d0 d1 d2 d3 rtr dg = .error (.codec .payloadLengthMismatch))

/-- R195, an inference the spec marks as its own: a shape match has at least 9 bytes, one of 9 is dropped, one that yields a
frame has at least 10; a buffer yields at most a tenth of its length in frames; and the machine takes exactly one pass for
each byte. -/
def Obligations.ScanIsBoundedByItsInput : Prop :=
  ∀ (rom : Rom) (buf : List Byte),
    (∀ m ∈ shapeMatches buf, m.start + 9 ≤ m.stop ∧ (m.stop = m.start + 9 → emitted (m.emit rom) = []) ∧
      (∀ f, m.emit rom = .ok f → m.start + 10 ≤ m.stop)) ∧
    (framesOf rom buf).length ≤ buf.length / 10 ∧
    (scanLoop rom buf Scanner.cleared).1.pos = buf.length

/-! The other rows of the table. None is an operation of the spec; their transactions are the model's choices of logs 2, 3
and 4. -/

/-- The model's choice of log 2: the rows of the data formats F-PRI, F-HDR, F-CANID, F-MSG and F-WIRE give a value of the
format to the operation that R50 says uses it (constructors formatPri, formatHdr, formatCanid, formatMsg, formatWire). -/
def Obligations.FormatRowsRunTheirOperation : Prop :=
  ∀ (s : State),
    (∀ b : Byte, ∃ major minor : BitVec 2, major.toNat = b.toNat / 64 ∧ minor.toNat = b.toNat / 16 % 4 ∧
      Answers s (exec (.formatPri b) s) (.priorities major minor)) ∧
    (∀ hb lb : Byte, ∃ h : Header, h.major.toNat = hb.toNat / 64 ∧ h.minor.toNat = hb.toNat / 16 % 4 ∧
      h.sid.toNat = 8 * (hb.toNat % 16) + lb.toNat / 32 ∧ Answers s (exec (.formatHdr hb lb) s) (.header h)) ∧
    (∀ id : BitVec 11, ∃ top low : Byte, 256 * top.toNat + low.toNat = id.toNat ∧
      Answers s (exec (.formatCanid id) s) (.canId top low)) ∧
    (romCheck s.rom = true →
      (∀ v p, Present s v → p.length = v.toNat / 32 →
        Answers s (exec (.formatMsg (v :: p)) s) (.message { op := v, payload := p })) ∧
      (∀ bs, exec (.formatMsg bs) s = exec (.msgDec bs) s) ∧
      (∀ buf, ScansTo s (exec (.formatWire buf) s) buf (framesOf s.rom buf) (spansOf s.rom buf)))

/-- R74 and the model's choice of log 4: the rows session-keep-alive, request-engine-session and ACON (constructors
entrySessionKeepAlive, entryRequestEngineSession, entryAcon) answer the message of their packer with the opcode fixed. -/
def Obligations.PseudoOperationRowsFixTheOpcode : Prop :=
  ∀ (s : State), romCheck s.rom = true →
    (∀ n, Present s 0x23 →
      Answers s (exec (.entrySessionKeepAlive n) s) (.message { op := 0x23, payload := [n] })) ∧
    (∀ n : BitVec 16, Present s 0x40 → ∃ n1 n0 : Byte, n1.toNat = n.toNat / 256 ∧ n0.toNat = n.toNat % 256 ∧
      Answers s (exec (.entryRequestEngineSession n) s) (.message { op := 0x40, payload := [n1, n0] })) ∧
    (∀ (node event : BitVec 16) (v : Byte), romNamed s.rom "ACON" = some v → v.toNat / 32 = 4 →
      ∃ n1 n0 e1 e0 : Byte, n1.toNat = node.toNat / 256 ∧ n0.toNat = node.toNat % 256 ∧
        e1.toNat = event.toNat / 256 ∧ e0.toNat = event.toNat % 256 ∧
        Answers s (exec (.entryAcon node event) s) (.message { op := v, payload := [n1, n0, e1, e0] }))

/-- R115 and the model's choice of log 4: the rows engine report, command-station report and module name (constructors
entryEngineReport, entryCommandStationReport, entryModuleName) answer a message of seven payload bytes at 0xE0 + idx, and do
what PK.ENG, PK.CSRPT and PK.NAME do there. -/
def Obligations.ReportRowsPackAtSevenByteOpcodes : Prop :=
  ∀ (idx : BitVec 5) (s : State), ∃ v : Byte, v.toNat = 0xE0 + idx.toNat ∧
    (∀ a b c d e f g, exec (.entryEngineReport idx a b c d e f g) s = exec (.pkEng v a b c d e f g) s ∧
      (romCheck s.rom = true → Present s v → ∃ p : List Byte, p.length = 7 ∧
        Answers s (exec (.entryEngineReport idx a b c d e f g) s) (.message { op := v, payload := p }))) ∧
    (∀ a b c d e f, exec (.entryCommandStationReport idx a b c d e f) s = exec (.pkCsrpt v a b c d e f) s ∧
      (romCheck s.rom = true → Present s v → ∃ p : List Byte, p.length = 7 ∧
        Answers s (exec (.entryCommandStationReport idx a b c d e f) s) (.message { op := v, payload := p }))) ∧
    (∀ n, exec (.entryModuleName idx n) s = exec (.pkName v n) s ∧
      (romCheck s.rom = true → Present s v → (∀ b ∈ n, b.toNat < 0x80) → ∃ p : List Byte, p.length = 7 ∧
        Answers s (exec (.entryModuleName idx n) s) (.message { op := v, payload := p })))

/-- R115 and the model's choice of log 4: the rows CMDERR and ERR of the source (constructors entryCmderr, entryErr) construct a
message at the entry of that name; and the three rows that go by name are refused when the name does not denote one entry. -/
def Obligations.NamedRowsConstructAtTheirEntry : Prop :=
  ∀ (s : State), romCheck s.rom = true →
    (∀ v, romNamed s.rom "CMDERR" = some v →
      (∀ p, p.length = v.toNat / 32 →
        Answers s (exec (.entryCmderr (some p)) s) (.message { op := v, payload := p })) ∧
      (∀ p, p.length ≠ v.toNat / 32 → Raises s (exec (.entryCmderr (some p)) s) .payloadLengthMismatch) ∧
      Answers s (exec (.entryCmderr none) s) (.message { op := v, payload := List.replicate (v.toNat / 32) 0x00#8 })) ∧
    (∀ v, romNamed s.rom "ERR" = some v →
      (∀ p, p.length = v.toNat / 32 →
        Answers s (exec (.entryErr (some p)) s) (.message { op := v, payload := p })) ∧
      (∀ p, p.length ≠ v.toNat / 32 → Raises s (exec (.entryErr (some p)) s) .payloadLengthMismatch) ∧
      Answers s (exec (.entryErr none) s) (.message { op := v, payload := List.replicate (v.toNat / 32) 0x00#8 })) ∧
    (romNamed s.rom "CMDERR" = none → ∀ p, exec (.entryCmderr p) s = .refused (.noSuchEntry "CMDERR")) ∧
    (romNamed s.rom "ERR" = none → ∀ p, exec (.entryErr p) s = .refused (.noSuchEntry "ERR")) ∧
    (romNamed s.rom "ACON" = none → ∀ n e, exec (.entryAcon n e) s = .refused (.noSuchEntry "ACON"))

/-- From R116: in a ROM whose entries have distinct names, the entry of a name is found by its name, and it is present. -/
def Obligations.DistinctNamesDenoteOneEntry : Prop :=
  ∀ (rom : Rom), (rom.map fun e => e.2.name).Nodup →
    ∀ v d, (v, d) ∈ rom → romNamed rom d.name = some v ∧ romPresent rom v = true

/-- R71 and the model's choice of log 3: each of the 130 rows of the default catalog, for a payload of `v >> 5` bytes over
a valid image, answers the message of its opcode when the ROM has the entry, and UnknownOpcode when it has not.
`romRows` (Decode.lean) lists the rows with their addresses; the constructors it covers are: romACK, romNAK, romHLT,
romBON, romTOF, romTON, romESTOP, romARST, romRTOF, romRTON, romRESTP, romRSTAT, romQNN, romRQNP, romRQMN, romKLOC,
romQLOC, romDKEEP, romDBG1, romEXTC, romRLOC, romQCON, romSNN, romALOC, romSTMOD, romPCON, romKCON, romDSPD, romDFLG,
romDFNON, romDFNOF, romSSTAT, romNNRSM, romRQNN, romNNREL, romNNACK, romNNLRN, romNNULN, romNNCLR, romNNEVN, romNERD,
romRQEVN, romWRACK, romRQDAT, romRQDDS, romBOOTM, romENUM, romNNRST, romEXTC1, romDFUN, romGLOC, romERR, romCMDERR,
romEVNLF, romNVRD, romNENRD, romRQNPN, romNUMEV, romCANID, romEXTC2, romRDCC3, romWCVO, romWCVB, romQCVS, romPCVS,
romACON, romACOF, romAREQ, romARON, romAROF, romEVULN, romNVSET, romNVANS, romASON, romASOF, romASRQ, romPARAN,
romREVAL, romARSON, romARSOF, romEXTC3, romRDCC4, romWCVS, romACON1, romACOF1, romREQEV, romARON1, romAROF1, romNEVAL,
romPNN, romASON1, romASOF1, romARSON1, romARSOF1, romEXTC4, romRDCC5, romWCVOA, romCABDAT, romFCLK, romACON2,
romACOF2, romEVLRN, romEVANS, romARON2, romAROF2, romASON2, romASOF2, romARSON2, romARSOF2, romEXTC5, romRDCC6,
romPLOC, romNAME, romSTAT, romPARAMS, romACON3, romACOF3, romENRSP, romARON3, romAROF3, romEVLRNI, romACDAT, romARDAT,
romASON3, romASOF3, romDDES, romDDRS, romARSON3, romARSOF3, romEXTC6. -/
def Obligations.RomRowsPresentTheirMessage : Prop :=
  ∀ row ∈ romRows, ∀ (p : List Byte) (s : State), romCheck s.rom = true → p.length = row.1.toNat / 32 →
    (Present s row.1 → Answers s (exec (row.2 p) s) (.message { op := row.1, payload := p })) ∧
    (¬ Present s row.1 → Raises s (exec (row.2 p) s) .unknownOpcode)

/-- R70, "this spec's own assignment" (D2): the operation codes of the 24 operations; and the eight codes that select no
operation are refused. -/
def Obligations.OperationCodesOfTheTable : Prop :=
  (∀ a b, HasCode (.priPack a b) 0x00) ∧ (∀ a, HasCode (.priUnpack a) 0x01) ∧ (∀ a b c, HasCode (.hdrEnc a b c) 0x02) ∧
  (∀ a, HasCode (.hdrDec a) 0x03) ∧ (∀ a, HasCode (.hdrReg a) 0x04) ∧ (∀ a, HasCode (.hdrCanid a) 0x05) ∧
  (∀ a, HasCode (.hdrAscii a) 0x06) ∧ (∀ a b, HasCode (.hdrEq a b) 0x07) ∧ (∀ a, HasCode (.catLen a) 0x08) ∧
  (∀ a, HasCode (.catLookup a) 0x09) ∧ HasCode .catCheck 0x0A ∧ (∀ a b, HasCode (.msgNew a b) 0x0B) ∧
  (∀ a, HasCode (.msgDec a) 0x0C) ∧ (∀ a, HasCode (.msgHex a) 0x0D) ∧ (∀ a b, HasCode (.msgEq a b) 0x0E) ∧
  (∀ a b c d e f g h, HasCode (.pkEng a b c d e f g h) 0x10) ∧ (∀ a b c, HasCode (.pkAlev a b c) 0x11) ∧
  (∀ a b c d e f g, HasCode (.pkCsrpt a b c d e f g) 0x12) ∧ (∀ a b, HasCode (.pkName a b) 0x13) ∧
  (∀ a b, HasCode (.pkU16 a b) 0x14) ∧ (∀ a b, HasCode (.pkU8 a b) 0x15) ∧ (∀ a, HasCode (.frmEnc a) 0x18) ∧
  (∀ a, HasCode (.frmScan a) 0x19) ∧ (∀ a b, HasCode (.frmEq a b) 0x1A) ∧
  HasCode .unused0F 0x0F ∧ HasCode .unused16 0x16 ∧ HasCode .unused17 0x17 ∧ HasCode .unused1B 0x1B ∧
  HasCode .unused1C 0x1C ∧ HasCode .unused1D 0x1D ∧ HasCode .unused1E 0x1E ∧ HasCode .unused1F 0x1F ∧
  ∀ (s : State),
    exec .unused0F s = .refused (.noOperation 0x0F) ∧ exec .unused16 s = .refused (.noOperation 0x16) ∧
    exec .unused17 s = .refused (.noOperation 0x17) ∧ exec .unused1B s = .refused (.noOperation 0x1B) ∧
    exec .unused1C s = .refused (.noOperation 0x1C) ∧ exec .unused1D s = .refused (.noOperation 0x1D) ∧
    exec .unused1E s = .refused (.noOperation 0x1E) ∧ exec .unused1F s = .refused (.noOperation 0x1F)

/-! Errors -/

/-- R214: raising an error kind produces no result and changes no state: whenever a transaction ends with an error kind, only
the output ports differ. -/
def Obligations.AnErrorChangesNoState : Prop :=
  ∀ (i : Instr) (s t : State) (k : ErrKind), exec i s = .next t → t.err = some (.kind k) → Raises s (exec i s) k

/-- From R210: each operation returns only the error kinds the rule's table gives it; the thirteen total operations return
none. -/
def Obligations.OnlyTheseErrorsAreReturned : Prop :=
  ∀ (i : Instr) (s t : State) (k : ErrKind), exec i s = .next t → t.err = some (.kind k) → k ∈ errorsOf i

/-- R211, numbers the spec assigned (D3): the codes of the `err` port, and 6 for OddHexLength on the sideband only. -/
def Obligations.ErrorCodesOfThePort : Prop :=
  (errCode .ok).toNat = 0 ∧ (errCode (.kind .invalidIdentifier)).toNat = 1 ∧
  (errCode (.kind .insufficientData)).toNat = 2 ∧ (errCode (.kind .emptyInput)).toNat = 3 ∧
  (errCode (.kind .unknownOpcode)).toNat = 4 ∧ (errCode (.kind .payloadLengthMismatch)).toNat = 5 ∧
  (∀ e : Err, (errCode e).toNat < 6) ∧ (dropCode .oddHexLength).toNat = 6

/-! The whole machine -/

/-- R9: what an operation shows depends on its operands and the ROM only: on two states with the same ROM, whatever else
differs (earlier results, the scanner's registers), every row of the table shows the same. And nothing of an earlier operation
survives the next (from R16): where the scanner's registers, the serializer's index and the host's queue agree as well, the
whole outcome is the same, whatever the ports held. -/
def Obligations.OutcomeDependsOnOperandsAndRomOnly : Prop :=
  ∀ (i : Instr) (s t : State), s.rom = t.rom →
    SameOutcome (exec i s) (exec i t) ∧
    (s.scn = t.scn → s.serIdx = t.serIdx → s.host = t.host → exec i s = exec i t)

/-- From R15 and R44: no operation writes the ROM, so every address reads as before, and the host's queue is the host's. -/
def Obligations.NoOperationWritesTheRom : Prop :=
  ∀ (i : Instr) (s t : State), exec i s = .next t →
    t.rom = s.rom ∧ (∀ v, romRead t.rom v = romRead s.rom v) ∧ t.host = s.host

/-- From R130: a message on the result port has its length and an opcode of the ROM, and so has every message of a frame the
scanner puts out (R187). -/
def Obligations.OnlyMessagesAreReturned : Prop :=
  ∀ (i : Instr) (s t : State), exec i s = .next t →
    (∀ m, t.res = some (.message m) → m.payload.length = m.op.toNat / 32 ∧ Present s m.op) ∧
    (∀ f ∈ t.frameOut, ∃ m, f.message = some m ∧ m.payload.length = m.op.toNat / 32 ∧ Present s m.op)

/-- The invariant of Safety.lean (R24, R25, R26, R130, R187, R191, R241): whatever state it holds in, it holds after a step. -/
def Obligations.StepKeepsTheInvariant : Prop :=
  ∀ (s t : State), s.inv = true → step s = .next t → t.inv = true

/-- The invariant holds at reset. It rests on the model's choice of the ROM's contents (log 5). -/
def Obligations.InvariantHoldsAtReset : Prop := State.reset.inv = true

/-- From R24: at reset the scanner is in IDLE at position 0 with no digits and no frames, the serializer's index is 0, and
`res`, `err` and the output streams hold no value. (The ROM's contents at reset are the model's choice, log 5.) -/
def Obligations.ResetValues : Prop :=
  State.reset.scn.state = .idle ∧ State.reset.scn.pos = 0 ∧ State.reset.scn.dig = [] ∧ State.reset.scn.out = [] ∧
  State.reset.serIdx = 0 ∧ State.reset.res = none ∧ State.reset.err = none ∧ State.reset.frameOut = [] ∧
  State.reset.spanOut = [] ∧ State.reset.outStream = []

/-- The model's step (logs 1 and 11): when the bytes the host presents decode to a well-formed instruction, the step is exec of
it, with the transaction taken off the queue; bytes that do not decode are refused; and nothing presented changes nothing. -/
def Obligations.StepRunsTheDecodedInstruction : Prop :=
  ∀ (s : State),
    (∀ bytes later i rest, s.host = bytes :: later → decode bytes = .ok (i, rest) → i.wellFormed = true →
      step s = exec i { s with host := later }) ∧
    (∀ bytes later r, s.host = bytes :: later → decode bytes = .error r → step s = .refused (.undecodable r)) ∧
    (s.host = [] → step s = .next s)

/-! Decoding (the layout of the operand bundle is the model's choice, log 1) -/

/-- Decoding the encoding of a well-formed instruction gives the instruction, with every operand at every value, and leaves
whatever bytes follow. -/
def Obligations.DecodeInvertsEncode : Prop :=
  ∀ (i : Instr) (rest : List Byte), i.wellFormed = true → decode (encode i ++ rest) = .ok (i, rest)

/-- Whatever the bytes, an instruction the decoder gives is well-formed. -/
def Obligations.DecodedInstructionsAreWellFormed : Prop :=
  ∀ (bytes rest : List Byte) (i : Instr), decode bytes = .ok (i, rest) → i.wellFormed = true

/-- Words written out from the table (R70, R71, R114) decode to the rows the model gives them. Which row a word that several
rows share decodes to is the model's choice of log 23: here 0x23 goes to R114's session-keep-alive and not to DKEEP; 0x00, 0x03,
0x0A, 0x0D and 0x11 go to the operations of those codes and not to the ROM rows ACK, BON, RESTP, QNN and RQMN; and 0x91 goes to
ACOF and not to R114's ACON, of whose word the table gives the top three bits only. The operand layout is that of log 1. -/
def Obligations.TableWordsDecodeToTheirRows : Prop :=
  decodeTableWord 8 0b00000 = some (.priPack 0 0) ∧ decodeTableWord 8 0b00011 = some (.hdrDec []) ∧
  decodeTableWord 8 0b01010 = some .catCheck ∧ decodeTableWord 8 0b01101 = some (.msgHex { op := 0, payload := [] }) ∧
  decodeTableWord 8 0b10101 = some (.pkU8 0 0) ∧ decodeTableWord 8 0b11001 = some (.frmScan []) ∧
  decodeTableWord 8 0b11111 = some .unused1F ∧ decodeTableWord 8 0b00100011 = some (.entrySessionKeepAlive 0) ∧
  decodeTableWord 8 0b10010001 = some (.romACOF [0, 0, 0, 0]) ∧
  decode [0x11, 0x00, 0x90, 0x00, 0x0A, 0xFB, 0x41] = .ok (.pkAlev 0x90 10 64321, [])
end

