-- ==== Sys2Proof/Laws/Bits.lean ====
section
/-! SUPPORT. The bit-field formulas: what reading back a packed value gives, and the characters of the hexadecimal digits. -/

namespace Sys2Proof
namespace Bits

/-- A digit that was written reads back (R61, R62). -/
@[simp] theorem hexval_hexchr (n : Nibble) : hexval (hexchr n) = some n := by
  revert n; decide

@[simp] theorem ishex_hexchr (n : Nibble) : ishex (hexchr n) = true := by simp [ishex]

/-- The characters `':'`, `';'`, `'S'`, `'N'`, `'R'` are no digits (R58, R61). -/
theorem hexval_colon : hexval colon = none := by decide
theorem hexval_semicolon : hexval semicolon = none := by decide
theorem hexval_charS : hexval charS = none := by decide
theorem hexval_charN : hexval charN = none := by decide
theorem hexval_charR : hexval charR = none := by decide

/-- A hexadecimal digit is none of the wire form's other characters. -/
theorem ne_colon_of_hexval {c : Byte} {d : Nibble} (h : hexval c = some d) : c ≠ colon := by
  rintro rfl; rw [hexval_colon] at h; cases h

theorem ne_semicolon_of_hexval {c : Byte} {d : Nibble} (h : hexval c = some d) : c ≠ semicolon := by
  rintro rfl; rw [hexval_semicolon] at h; cases h

/-- The two nibbles of a byte make the byte (R37). -/
@[simp] theorem ofNibbles_nibbles (b : Byte) : ofNibbles (hiNibble b) (loNibble b) = b := by
  revert b; decide

/-- The digits of bytes pair up into the bytes (R37, R186). -/
theorem pairNibbles_nibbles (bs : List Byte) :
    pairNibbles (bs.flatMap fun b => [hiNibble b, loNibble b]) = some bs := by
  induction bs with
  | nil => rfl
  | cons b bs ih =>
    have h : List.flatMap (fun b => [hiNibble b, loNibble b]) (b :: bs)
        = hiNibble b :: loNibble b :: List.flatMap (fun b => [hiNibble b, loNibble b]) bs := rfl
    rw [h, pairNibbles, ih]
    simp

/-- Pairing fails exactly when the number of digits is odd (R188). -/
theorem pairNibbles_length {ds : List Nibble} {bs : List Byte} (h : pairNibbles ds = some bs) :
    ds.length = 2 * bs.length := by
  induction ds using pairNibbles.induct generalizing bs with
  | case1 => simp_all [pairNibbles]
  | case2 => simp [pairNibbles] at h
  | case3 hi lo ds ih =>
    simp only [pairNibbles, Option.map_eq_some_iff] at h
    obtain ⟨bs', h1, rfl⟩ := h
    simp [ih h1]
    omega

theorem hexBytes_length (bs : List Byte) : (hexBytes bs).length = 2 * bs.length := by
  induction bs with
  | nil => rfl
  | cons b bs ih =>
    have h : hexBytes (b :: bs) = hex2 b ++ hexBytes bs := rfl
    simp [h, ih, hex2]
    omega

/-- A payload has at most seven bytes (R4 `LEN_W`). -/
theorem payloadLen_le (v : Byte) : payloadLen v ≤ 7 := by
  revert v; decide

/-- The byte count as a quotient (R55). -/
theorem payloadLen_eq (v : Byte) : payloadLen v = v.toNat / 32 := by
  revert v; decide

/-- The two bytes of a 16-bit field read back (R35). -/
@[simp] theorem ofBe16_be16 (n : BitVec 16) : ofBe16 ((n >>> 8).setWidth 8) (n.setWidth 8) = n := by
  ext i hi
  simp [ofBe16, BitVec.getElem_or, BitVec.getElem_shiftLeft, BitVec.getElem_setWidth]
  interval_cases i <;> simp

end Bits
end Sys2Proof
end

