-- ==== Sys2Proof/Laws/State.lean ====
section
/-! SUPPORT. One lemma per field for each update of the state. -/

namespace Sys2Proof
namespace Machine

@[simp] theorem complete_rom (s : State) (r : Result) : (s.complete r).rom = s.rom := rfl
@[simp] theorem complete_scn (s : State) (r : Result) : (s.complete r).scn = s.scn := rfl
@[simp] theorem complete_serIdx (s : State) (r : Result) : (s.complete r).serIdx = s.serIdx := rfl
@[simp] theorem complete_host (s : State) (r : Result) : (s.complete r).host = s.host := rfl
@[simp] theorem complete_inStream (s : State) (r : Result) : (s.complete r).inStream = [] := rfl
@[simp] theorem complete_res (s : State) (r : Result) : (s.complete r).res = some r := rfl
@[simp] theorem complete_err (s : State) (r : Result) : (s.complete r).err = some .ok := rfl
@[simp] theorem complete_frameOut (s : State) (r : Result) : (s.complete r).frameOut = [] := rfl
@[simp] theorem complete_spanOut (s : State) (r : Result) : (s.complete r).spanOut = [] := rfl
@[simp] theorem complete_outStream (s : State) (r : Result) : (s.complete r).outStream = [] := rfl

@[simp] theorem raise_rom (s : State) (k : ErrKind) : (s.raise k).rom = s.rom := rfl
@[simp] theorem raise_scn (s : State) (k : ErrKind) : (s.raise k).scn = s.scn := rfl
@[simp] theorem raise_serIdx (s : State) (k : ErrKind) : (s.raise k).serIdx = s.serIdx := rfl
@[simp] theorem raise_host (s : State) (k : ErrKind) : (s.raise k).host = s.host := rfl
@[simp] theorem raise_inStream (s : State) (k : ErrKind) : (s.raise k).inStream = [] := rfl
@[simp] theorem raise_res (s : State) (k : ErrKind) : (s.raise k).res = none := rfl
@[simp] theorem raise_err (s : State) (k : ErrKind) : (s.raise k).err = some (.kind k) := rfl
@[simp] theorem raise_frameOut (s : State) (k : ErrKind) : (s.raise k).frameOut = [] := rfl
@[simp] theorem raise_spanOut (s : State) (k : ErrKind) : (s.raise k).spanOut = [] := rfl
@[simp] theorem raise_outStream (s : State) (k : ErrKind) : (s.raise k).outStream = [] := rfl

@[simp] theorem putAscii_rom (s : State) (bs : List Byte) : (s.putAscii bs).rom = s.rom := rfl
@[simp] theorem putAscii_scn (s : State) (bs : List Byte) : (s.putAscii bs).scn = s.scn := rfl
@[simp] theorem putAscii_serIdx (s : State) (bs : List Byte) : (s.putAscii bs).serIdx = (serRun bs bs.length 0).2 := rfl
@[simp] theorem putAscii_host (s : State) (bs : List Byte) : (s.putAscii bs).host = s.host := rfl
@[simp] theorem putAscii_inStream (s : State) (bs : List Byte) : (s.putAscii bs).inStream = [] := rfl
@[simp] theorem putAscii_res (s : State) (bs : List Byte) : (s.putAscii bs).res = some (.ascii bs) := rfl
@[simp] theorem putAscii_err (s : State) (bs : List Byte) : (s.putAscii bs).err = some .ok := rfl
@[simp] theorem putAscii_frameOut (s : State) (bs : List Byte) : (s.putAscii bs).frameOut = [] := rfl
@[simp] theorem putAscii_spanOut (s : State) (bs : List Byte) : (s.putAscii bs).spanOut = [] := rfl
@[simp] theorem putAscii_outStream (s : State) (bs : List Byte) : (s.putAscii bs).outStream = (serRun bs bs.length 0).1 := rfl

@[simp] theorem scanBuffer_rom (s : State) (buf : List Byte) : (s.scanBuffer buf).rom = s.rom := rfl
@[simp] theorem scanBuffer_scn (s : State) (buf : List Byte) : (s.scanBuffer buf).scn = Scanner.cleared := rfl
@[simp] theorem scanBuffer_serIdx (s : State) (buf : List Byte) : (s.scanBuffer buf).serIdx = s.serIdx := rfl
@[simp] theorem scanBuffer_host (s : State) (buf : List Byte) : (s.scanBuffer buf).host = s.host := rfl
@[simp] theorem scanBuffer_inStream (s : State) (buf : List Byte) : (s.scanBuffer buf).inStream = beats buf := rfl
@[simp] theorem scanBuffer_res (s : State) (buf : List Byte) : (s.scanBuffer buf).res = some (.frames (scanLoop s.rom buf Scanner.cleared).1.out) := rfl
@[simp] theorem scanBuffer_err (s : State) (buf : List Byte) : (s.scanBuffer buf).err = some .ok := rfl
@[simp] theorem scanBuffer_frameOut (s : State) (buf : List Byte) : (s.scanBuffer buf).frameOut = (scanLoop s.rom buf Scanner.cleared).1.out := rfl
@[simp] theorem scanBuffer_spanOut (s : State) (buf : List Byte) : (s.scanBuffer buf).spanOut = (scanLoop s.rom buf Scanner.cleared).2 := rfl
@[simp] theorem scanBuffer_outStream (s : State) (buf : List Byte) : (s.scanBuffer buf).outStream = [] := rfl

@[simp] theorem takeTransaction_rom (s : State) (r : List (List Byte)) : (s.takeTransaction r).rom = s.rom := rfl
@[simp] theorem takeTransaction_scn (s : State) (r : List (List Byte)) : (s.takeTransaction r).scn = s.scn := rfl
@[simp] theorem takeTransaction_serIdx (s : State) (r : List (List Byte)) : (s.takeTransaction r).serIdx = s.serIdx := rfl
@[simp] theorem takeTransaction_host (s : State) (r : List (List Byte)) : (s.takeTransaction r).host = r := rfl
@[simp] theorem takeTransaction_inStream (s : State) (r : List (List Byte)) : (s.takeTransaction r).inStream = s.inStream := rfl
@[simp] theorem takeTransaction_res (s : State) (r : List (List Byte)) : (s.takeTransaction r).res = s.res := rfl
@[simp] theorem takeTransaction_err (s : State) (r : List (List Byte)) : (s.takeTransaction r).err = s.err := rfl
@[simp] theorem takeTransaction_frameOut (s : State) (r : List (List Byte)) : (s.takeTransaction r).frameOut = s.frameOut := rfl
@[simp] theorem takeTransaction_spanOut (s : State) (r : List (List Byte)) : (s.takeTransaction r).spanOut = s.spanOut := rfl
@[simp] theorem takeTransaction_outStream (s : State) (r : List (List Byte)) : (s.takeTransaction r).outStream = s.outStream := rfl

@[simp] theorem withFetchWord_rom (s : State) (n w : Nat) : (s.withFetchWord n w).rom = s.rom := rfl
@[simp] theorem withFetchWord_scn (s : State) (n w : Nat) : (s.withFetchWord n w).scn = s.scn := rfl
@[simp] theorem withFetchWord_serIdx (s : State) (n w : Nat) : (s.withFetchWord n w).serIdx = s.serIdx := rfl
@[simp] theorem withFetchWord_host (s : State) (n w : Nat) : (s.withFetchWord n w).host = transactionOfWord n w :: s.host := rfl
@[simp] theorem withFetchWord_inStream (s : State) (n w : Nat) : (s.withFetchWord n w).inStream = s.inStream := rfl
@[simp] theorem withFetchWord_res (s : State) (n w : Nat) : (s.withFetchWord n w).res = s.res := rfl
@[simp] theorem withFetchWord_err (s : State) (n w : Nat) : (s.withFetchWord n w).err = s.err := rfl
@[simp] theorem withFetchWord_frameOut (s : State) (n w : Nat) : (s.withFetchWord n w).frameOut = s.frameOut := rfl
@[simp] theorem withFetchWord_spanOut (s : State) (n w : Nat) : (s.withFetchWord n w).spanOut = s.spanOut := rfl
@[simp] theorem withFetchWord_outStream (s : State) (n w : Nat) : (s.withFetchWord n w).outStream = s.outStream := rfl

@[simp] theorem cleared_state : Scanner.cleared.state = .idle := rfl
@[simp] theorem cleared_pos : Scanner.cleared.pos = 0 := rfl
@[simp] theorem cleared_dig : Scanner.cleared.dig = [] := rfl
@[simp] theorem cleared_out : Scanner.cleared.out = [] := rfl
@[simp] theorem cleared_hn0 : Scanner.cleared.hn0 = Config.freeNibble 0 := rfl
@[simp] theorem cleared_hn1 : Scanner.cleared.hn1 = Config.freeNibble 1 := rfl
@[simp] theorem cleared_hn2 : Scanner.cleared.hn2 = Config.freeNibble 2 := rfl
@[simp] theorem cleared_hn3 : Scanner.cleared.hn3 = Config.freeNibble 3 := rfl
@[simp] theorem cleared_rtr : Scanner.cleared.rtr = Config.freeRtr := rfl
@[simp] theorem cleared_start : Scanner.cleared.start = Config.freeStart := rfl

end Machine
end Sys2Proof
end

