-- ==== Sys2Proof/Laws/Outcome.lean ====
section
/-! SUPPORT. For each shared operation one lemma that says all it can do: what follows when it answers a next state, and its
equation when its precondition holds. -/

namespace Sys2Proof
namespace Machine

variable {s t : State} {k : Host.Outcome State Fault Refusal}

/-- A next state of an operation that answers from its operands is its result or its error kind on the ports. -/
theorem respond_next {r : Except ErrKind Result} (h : respond r s = .next t) :
    (∃ v, r = .ok v ∧ t = s.complete v) ∨ (∃ e, r = .error e ∧ t = s.raise e) := by
  cases r with
  | ok v => exact .inl ⟨v, rfl, by simpa [respond] using h.symm⟩
  | error e => exact .inr ⟨e, rfl, by simpa [respond] using h.symm⟩

@[simp] theorem respond_ok (r : Result) (s : State) : respond (.ok r) s = .next (s.complete r) := rfl

@[simp] theorem respond_error (e : ErrKind) (s : State) : respond (.error e) s = .next (s.raise e) := rfl

theorem withRom_next (h : withRom s k = .next t) : romCheck s.rom = true ∧ k = .next t := by
  unfold withRom at h
  split at h
  · exact ⟨‹_›, h⟩
  · cases h

theorem withRom_of_check (h : romCheck s.rom = true) : withRom s k = k := by simp [withRom, h]

theorem withRom_of_not_check (h : romCheck s.rom = false) : withRom s k = .refused .romImageInvalid := by simp [withRom, h]

theorem withPresent_next {v : Byte} (h : withPresent v s k = .next t) : romPresent s.rom v = true ∧ k = .next t := by
  unfold withPresent at h
  split at h
  · exact ⟨‹_›, h⟩
  · cases h

theorem withPresent_of_present {v : Byte} (h : romPresent s.rom v = true) : withPresent v s k = k := by
  simp [withPresent, h]

theorem withPresent_of_absent {v : Byte} (h : romPresent s.rom v = false) :
    withPresent v s k = .refused (.opcodeAbsent v) := by simp [withPresent, h]

theorem withMessage_next {m : Message} (h : withMessage m k = .next t) : m.lengthOk = true ∧ k = .next t := by
  unfold withMessage at h
  split at h
  · exact ⟨‹_›, h⟩
  · cases h

theorem withMessage_of_ok {m : Message} (h : m.lengthOk = true) : withMessage m k = k := by simp [withMessage, h]

theorem withFrame_next {f : Frame} (h : withFrame f k = .next t) : f.messageOk = true ∧ k = .next t := by
  unfold withFrame at h
  split at h
  · exact ⟨‹_›, h⟩
  · cases h

theorem withFrame_of_ok {f : Frame} (h : f.messageOk = true) : withFrame f k = k := by simp [withFrame, h]

theorem withName_next {n : List Byte} (h : withName n k = .next t) : Instr.nameOk n = true ∧ k = .next t := by
  unfold withName at h
  split at h
  · exact ⟨‹_›, h⟩
  · cases h

theorem withName_of_ok {n : List Byte} (h : Instr.nameOk n = true) : withName n k = k := by simp [withName, h]

theorem withNamed_next {n : String} {f : Byte → Host.Outcome State Fault Refusal} (h : withNamed n s f = .next t) :
    ∃ v, romNamed s.rom n = some v ∧ f v = .next t := by
  unfold withNamed at h
  split at h
  · exact ⟨_, ‹_›, h⟩
  · cases h

theorem withNamed_of_named {n : String} {v : Byte} {f : Byte → Host.Outcome State Fault Refusal}
    (h : romNamed s.rom n = some v) : withNamed n s f = f v := by simp [withNamed, h]

/-- All that constructing a message can do: the opcode is present, and the state completes with the message or raises the
constructor's error. -/
theorem constructMessage_next {v : Byte} {p : Option (List Byte)} (h : constructMessage v p s = .next t) :
    romCheck s.rom = true ∧ romPresent s.rom v = true ∧
      ((∃ m, newMessage v p = .ok m ∧ t = s.complete (.message m)) ∨
        ∃ e, newMessage v p = .error e ∧ t = s.raise e) := by
  obtain ⟨hc, h⟩ := withRom_next h
  obtain ⟨hp, h⟩ := withPresent_next h
  refine ⟨hc, hp, ?_⟩
  cases hm : newMessage v p with
  | ok m => exact .inl ⟨m, rfl, by simpa [hm, Except.map] using h.symm⟩
  | error e => exact .inr ⟨e, rfl, by simpa [hm, Except.map] using h.symm⟩

/-- All that decoding a message can do. -/
theorem decodeMessage_next {bs : List Byte} (h : decodeMessage bs s = .next t) :
    romCheck s.rom = true ∧
      ((∃ m, messageOf s.rom bs = .ok m ∧ t = s.complete (.message m)) ∨
        ∃ e, messageOf s.rom bs = .error e ∧ t = s.raise e) := by
  obtain ⟨hc, h⟩ := withRom_next h
  refine ⟨hc, ?_⟩
  cases hm : messageOf s.rom bs with
  | ok m => exact .inl ⟨m, rfl, by simpa [hm, Except.map] using h.symm⟩
  | error e => exact .inr ⟨e, rfl, by simpa [hm, Except.map] using h.symm⟩

/-- All that putting a buffer to the scanner can do. -/
theorem scanFrames_next {buf : List Byte} (h : scanFrames buf s = .next t) :
    romCheck s.rom = true ∧ t = s.scanBuffer buf := by
  obtain ⟨hc, h⟩ := withRom_next h
  exact ⟨hc, by simpa using h.symm⟩

/-- All that presenting header bytes can do. -/
theorem presentHeader_next {bs : List Byte} (h : presentHeader bs s = .next t) :
    bs.length ≤ 2 ∧
      ((∃ d, decodeHeader bs = .ok d ∧ t = s.complete (.header d)) ∨
        ∃ e, decodeHeader bs = .error e ∧ t = s.raise e) := by
  unfold presentHeader at h
  split at h
  · refine ⟨‹_›, ?_⟩
    cases hm : decodeHeader bs with
    | ok m => exact .inl ⟨m, rfl, by simpa [hm, Except.map] using h.symm⟩
    | error e => exact .inr ⟨e, rfl, by simpa [hm, Except.map] using h.symm⟩
  · cases h

/-- A message that was constructed keeps the length invariant and has the opcode asked for (R130, R131). -/
theorem newMessage_ok {v : Byte} {p : Option (List Byte)} {m : Message} (h : newMessage v p = .ok m) :
    m.op = v ∧ m.lengthOk = true := by
  cases p with
  | none =>
    simp only [newMessage, Except.ok.injEq] at h
    subst h
    simp [Message.lengthOk]
  | some p =>
    simp only [newMessage] at h
    split at h
    · simp only [Except.ok.injEq] at h
      subst h
      simp [Message.lengthOk, *]
    · cases h

/-- A message that was decoded keeps the length invariant, is of the ROM, and is the bytes it was decoded from (R130,
R133). -/
theorem messageOf_ok {rom : Rom} {bs : List Byte} {m : Message} (h : messageOf rom bs = .ok m) :
    m.bytes = bs ∧ m.lengthOk = true ∧ romPresent rom m.op = true := by
  cases bs with
  | nil => cases h
  | cons v p =>
    simp only [messageOf] at h
    split at h
    · split at h
      · simp only [Except.ok.injEq] at h
        subst h
        simp [Message.bytes, Message.lengthOk, *]
      · cases h
    · cases h

/-- The byte-by-byte serializer puts out the bytes in order, the last one marked, and ends at index 0 (R25, R34). -/
theorem serRun_from (pre rest : List Byte) (h : rest ≠ []) :
    serRun (pre ++ rest) rest.length pre.length = (beats rest, 0) := by
  induction rest generalizing pre with
  | nil => exact absurd rfl h
  | cons b rest ih =>
    cases rest with
    | nil => simp [serRun, serStep, beats]
    | cons c rest =>
      have h1 := ih (pre ++ [b]) (by simp)
      simp only [List.append_assoc, List.singleton_append, List.length_append, List.length_cons,
        List.length_nil, Nat.zero_add] at h1
      rw [List.length_cons, serRun]
      simp [serStep, beats, h1]

theorem serRun_all (bs : List Byte) : serRun bs bs.length 0 = (beats bs, 0) := by
  cases bs with
  | nil => rfl
  | cons b rest => exact serRun_from [] (b :: rest) (by simp)

/-- The next state of an operation that puts out ASCII bytes, in one record. -/
theorem putAscii_eq (bs : List Byte) (s : State) :
    s.putAscii bs = { s.complete (.ascii bs) with outStream := beats bs, serIdx := 0 } := by
  simp [State.putAscii, serRun_all]

end Machine
end Sys2Proof
end

