-- ==== Sys2Proof/Laws/Reader.lean ====
section
/-! SUPPORT. Each reader of the decoder gives back what the writer of the encoder wrote, and leaves the rest. -/

namespace Sys2Proof
namespace Reader

variable {α β : Type}

@[simp] theorem done_apply (a : α) (bs : List Byte) : done a bs = .ok (a, bs) := rfl

@[simp] theorem reject_apply (e : Reject) (bs : List Byte) : (reject e : Reader α) bs = .error e := rfl

/-- After a reader that succeeds, the rest is read by the next. -/
theorem andThen_ok {r : Reader α} {k : α → Reader β} {bs rest : List Byte} {a : α} (h : r bs = .ok (a, rest)) :
    andThen r k bs = k a rest := by simp [andThen, h]

/-- All that one reader after another can do when it succeeds. -/
theorem andThen_eq_ok {r : Reader α} {k : α → Reader β} {bs left : List Byte} {b : β} (h : andThen r k bs = .ok (b, left)) :
    ∃ a rest, r bs = .ok (a, rest) ∧ k a rest = .ok (b, left) := by
  unfold andThen at h
  split at h
  · exact ⟨_, _, ‹_›, h⟩
  · cases h

@[simp] theorem byte_cons (b : Byte) (rest : List Byte) : byte (b :: rest) = .ok (b, rest) := rfl

@[simp] theorem narrow_writer {n : Nat} (hn : n ≤ 8) (x : BitVec n) (rest : List Byte) :
    narrow n (Writer.narrow x ++ rest) = .ok (x, rest) := by
  have h : (x.setWidth 8).toNat = x.toNat := by
    rw [BitVec.toNat_setWidth]
    exact Nat.mod_eq_of_lt (lt_of_lt_of_le x.isLt (Nat.pow_le_pow_right (by norm_num) hn))
  have h2 : (x.setWidth 8).setWidth n = x := by
    apply BitVec.eq_of_toNat_eq
    rw [BitVec.toNat_setWidth, h]
    exact Nat.mod_eq_of_lt x.isLt
  simp only [narrow, Writer.narrow, List.cons_append, List.nil_append, andThen, byte_cons]
  simp [h, h2, x.isLt]

@[simp] theorem marker_writer (b : Bool) (rest : List Byte) : marker (Writer.marker b ++ rest) = .ok (b, rest) := by
  cases b <;> rfl

@[simp] theorem word16_writer (n : BitVec 16) (rest : List Byte) : word16 (Bits.be16 n ++ rest) = .ok (n, rest) := by
  have h := Bits.ofBe16_be16 n
  simp only [word16, Bits.be16, List.cons_append, List.nil_append, andThen, byte_cons, done_apply]
  rw [h]

@[simp] theorem bytes_append (p rest : List Byte) : bytes p.length (p ++ rest) = .ok (p, rest) := by
  induction p with
  | nil => rfl
  | cons b p ih => simp [bytes, andThen, ih]

@[simp] theorem seq_writer (bs rest : List Byte) : seq (Writer.seq bs ++ rest) = .ok (bs, rest) := by
  induction bs with
  | nil => cases rest <;> simp [Writer.seq, seq]
  | cons b bs ih => simp [Writer.seq, seq, ih]

theorem opt_writer {r : Reader α} {w : α → List Byte} (h : ∀ a rest, r (w a ++ rest) = .ok (a, rest)) (o : Option α)
    (rest : List Byte) : opt r (Writer.opt w o ++ rest) = .ok (o, rest) := by
  cases o with
  | none => rfl
  | some a =>
    have h1 : marker (1#8 :: (w a ++ rest)) = .ok (true, w a ++ rest) := rfl
    simp [opt, Writer.opt, andThen, h1, h]

theorem message_writer {m : Message} (h : m.lengthOk = true) (rest : List Byte) :
    message (m.bytes ++ rest) = .ok (m, rest) := by
  have hl : Bits.payloadLen m.op = m.payload.length := by
    simpa [Message.lengthOk] using (beq_iff_eq.mp h).symm
  simp [message, Message.bytes, andThen, hl]

end Reader
end Sys2Proof
end

