-- ==== Sys2Proof/Laws/Rom.lean ====
section
/-! SUPPORT. The ROM: reading it, its canonical form, and that no operation on the state changes it. -/

namespace Sys2Proof
namespace Machine

/-- An entry that is read is in the list, at its address. -/
theorem romRead_mem {rom : Rom} {v : Byte} {d : Descriptor} (h : romRead rom v = some d) : (v, d) ∈ rom := by
  induction rom with
  | nil => cases h
  | cons e rest ih =>
    simp only [romRead] at h
    split at h
    · obtain ⟨a, b⟩ := e
      simp_all
    · exact List.mem_cons_of_mem _ (ih h)

/-- In an image that CAT.CHECK accepts, a descriptor's byte count is the top three bits of its address (R113). -/
theorem romRead_byteCount {rom : Rom} {v : Byte} {d : Descriptor} (hc : romCheck rom = true) (h : romRead rom v = some d) :
    d.byteCount = Bits.byteCount v := by
  have := (List.all_eq_true.mp hc) _ (romRead_mem h)
  simpa using this

theorem romWf_tail {e : Byte × Descriptor} {rest : Rom} (h : romWf (e :: rest) = true) : romWf rest = true := by
  cases rest with
  | nil => rfl
  | cons e2 rest =>
    simp only [romWf, addressesRise, Bool.and_eq_true] at h
    exact h.2

/-- In the canonical form every later address is above the first. -/
theorem romWf_head_lt {e : Byte × Descriptor} {rest : Rom} (h : romWf (e :: rest) = true) :
    ∀ x ∈ rest, e.1.toNat < x.1.toNat := by
  induction rest generalizing e with
  | nil => simp
  | cons e2 rest ih =>
    simp only [romWf, addressesRise, Bool.and_eq_true, decide_eq_true_eq] at h
    intro x hx
    rcases List.mem_cons.mp hx with rfl | hx
    · exact h.1
    · exact lt_trans h.1 (ih h.2 x hx)

/-- In the canonical form an entry of the list is what its address reads as. -/
theorem romRead_of_mem {rom : Rom} {v : Byte} {d : Descriptor} (hw : romWf rom = true) (h : (v, d) ∈ rom) :
    romRead rom v = some d := by
  induction rom with
  | nil => cases h
  | cons e rest ih =>
    rcases List.mem_cons.mp h with rfl | h
    · simp [romRead]
    · have hne : e.1 ≠ v := fun hv => by
        have := romWf_head_lt hw _ h
        rw [hv] at this
        exact lt_irrefl _ this
      simp [romRead, hne, ih (romWf_tail hw) h]

/-- Every operation on the state keeps the ROM, and with it the canonical form (R15, R44). -/
theorem romWf_kept (s : State) (r : Result) (k : ErrKind) (bs : List Byte) (ts : List (List Byte)) (h : romWf s.rom = true) :
    romWf (s.complete r).rom = true ∧ romWf (s.raise k).rom = true ∧ romWf (s.putAscii bs).rom = true ∧
      romWf (s.scanBuffer bs).rom = true ∧ romWf (s.takeTransaction ts).rom = true := by
  simp [h]

end Machine
end Sys2Proof
end

