-- ==== Sys2Proof/Tests/Slice0.lean ====
section
/-! SUPPORT. The model's own tests. Expected values come from spec/95_test_vectors.md (sections named at each test) or are
worked by hand from the rule named; catT is that file's test catalog CAT_T. The witnesses at the end show, for each statement
with hypotheses, a state and operands that meet them, at the boundaries of its clauses. -/

namespace Sys2Proof
namespace Tests

open Machine

/-- An entry of the test catalog; `default_minor` and `class` "take any values" (95 section 2). -/
def entry (v : Byte) (name : String) : Byte × Descriptor :=
  (v, { name := name, byteCount := Bits.byteCount v, defaultMinor := 2, cls := .dcc })

/-- CAT_T (95 section 2). -/
def catT : Rom := [entry 0x0D "QNN", entry 0x23 "DKEEP", entry 0x40 "RLOC", entry 0x90 "ACON", entry 0xE1 "PLOC",
  entry 0xE2 "NAME", entry 0xE3 "STAT"]

/-- CAT_T with `byte_count = 3` stored at 0x90 (95 section 3.3). -/
def catBad : Rom := [entry 0x0D "QNN", (0x90, { name := "ACON", byteCount := 3, defaultMinor := 2, cls := .dcc })]

/-- Entries named CMDERR and ERR, at addresses of the default catalog. -/
def catErr : Rom := [entry 0x63 "ERR", entry 0x6F "CMDERR", entry 0x90 "ACON"]

/-- A state with CAT_T. -/
def st : State := { State.reset with rom := catT }

/-- One step on `bytes`, over CAT_T. -/
def run (bytes : List Byte) : Host.Outcome State Fault Refusal := step { st with host := [bytes] }

/-- What a next state shows on `res`. -/
def resOf : Host.Outcome State Fault Refusal → Option Result
  | .next t => t.res
  | _ => none

/-- What a next state shows on `err`. -/
def errOf : Host.Outcome State Fault Refusal → Option Err
  | .next t => t.err
  | _ => none

/-- The refusal. -/
def refusalOf : Host.Outcome State Fault Refusal → Option Refusal
  | .refused r => some r
  | _ => none

/-- The spans of a next state. -/
def spansOut : Host.Outcome State Fault Refusal → List Span
  | .next t => t.spanOut
  | _ => []

/-- The output byte port of a next state. -/
def streamOf : Host.Outcome State Fault Refusal → List (Byte × Bool)
  | .next t => t.outStream
  | _ => []

/-- The instruction a sequence of bytes decodes to, with nothing left over. -/
def decodesTo (bytes : List Byte) : Option Instr :=
  match decode bytes with
  | .ok (i, []) => some i
  | _ => none

/-- Why the bytes are no instruction. -/
def rejectOf (bytes : List Byte) : Option Reject :=
  match decode bytes with
  | .error r => some r
  | _ => none

/-! WellFormed refuses an ill-formed term, for each of its checks. -/

theorem test_wf_hdrDec_three_bytes : (Instr.hdrDec [1, 2, 3]).wellFormed = false := by decide
theorem test_wf_hdrDec_two_bytes : (Instr.hdrDec [1, 2]).wellFormed = true := by decide
theorem test_wf_msgHex_short : (Instr.msgHex { op := 0x40, payload := [1] }).wellFormed = false := by decide
theorem test_wf_msgEq_first : (Instr.msgEq { op := 0x40, payload := [1] } { op := 0, payload := [] }).wellFormed = false := by decide
theorem test_wf_msgEq_second : (Instr.msgEq { op := 0, payload := [] } { op := 0x40, payload := [1] }).wellFormed = false := by decide
theorem test_wf_pkName_not_ascii : (Instr.pkName 0xE2 [0x41, 0x80]).wellFormed = false := by decide
theorem test_wf_entryModuleName_not_ascii : (Instr.entryModuleName 2 [0xFF]).wellFormed = false := by decide
theorem test_wf_frmEnc_long : (Instr.frmEnc { header := { major := 0, minor := 0, sid := 0 }, message := some { op := 0, payload := [1] }, rtr := false }).wellFormed = false := by decide
theorem test_wf_frmEq_second : (Instr.frmEq { header := { major := 0, minor := 0, sid := 0 }, message := none, rtr := false } { header := { major := 0, minor := 0, sid := 0 }, message := some { op := 0, payload := [1] }, rtr := false }).wellFormed = false := by decide
theorem test_wf_frmEq_first : (Instr.frmEq { header := { major := 0, minor := 0, sid := 0 }, message := some { op := 0, payload := [1] }, rtr := false } { header := { major := 0, minor := 0, sid := 0 }, message := none, rtr := false }).wellFormed = false := by decide
/-- Each of the 130 ROM rows takes `v >> 5` payload bytes and refuses one more. -/
theorem test_wf_rom_rows : (romRows.all fun row =>
    (row.2 (List.replicate (row.1.toNat / 32) 7)).wellFormed && !(row.2 (List.replicate (row.1.toNat / 32 + 1) 7)).wellFormed) = true := by decide

/-! The decoder rejects what no row's transaction is. -/

theorem test_reject_nothing : rejectOf [] = some .truncated := by decide
theorem test_reject_field_too_wide : rejectOf [0x00, 0, 4, 0] = some .fieldTooWide := by decide
theorem test_reject_marker : rejectOf [0x0B, 0, 0x40, 2] = some .badMarker := by decide
theorem test_reject_empty_location : rejectOf [0x62, 0, 0, 0, 0] = some .noSuchRow := by decide
theorem test_reject_page : rejectOf [0x00, 3] = some .noSuchRow := by decide
theorem test_reject_three_header_bytes : rejectOf [0x03, 0, 1, 1, 1, 2, 1, 3, 0] = some .operandTooLong := by decide
theorem test_reject_name : rejectOf [0x13, 0, 0xE2, 1, 0x80, 0] = some .nameNotAscii := by decide

/-! Words written out: byte 0 from 30_encoding.md R70 (in binary, as the 5-bit code), then the page, then the operands. -/

theorem test_decode_priPack : decodesTo [0b00000, 0, 1, 3] = some (.priPack 1 3) := by decide
theorem test_decode_priUnpack : decodesTo [0b00001, 0, 0x74] = some (.priUnpack 0x74) := by decide
theorem test_decode_hdrEnc : decodesTo [0b00010, 0, 1, 3, 0x01, 0x21] = some (.hdrEnc 1 3 289) := by decide
theorem test_decode_hdrDec : decodesTo [0b00011, 0, 1, 0x0F, 1, 0xE0, 0] = some (.hdrDec [0x0F, 0xE0]) := by decide
theorem test_decode_hdrReg :
    decodesTo [0b00100, 0, 1, 3, 33] =
      some (.hdrReg { major := 1, minor := 3, sid := 33 }) := by decide
theorem test_decode_hdrCanid :
    decodesTo [0b00101, 0, 1, 3, 33] =
      some (.hdrCanid { major := 1, minor := 3, sid := 33 }) := by decide
theorem test_decode_hdrAscii :
    decodesTo [0b00110, 0, 1, 3, 33] =
      some (.hdrAscii { major := 1, minor := 3, sid := 33 }) := by decide
theorem test_decode_hdrEq :
    decodesTo [0b00111, 0, 1, 3, 33, 0, 0, 127] =
      some (.hdrEq { major := 1, minor := 3, sid := 33 } { major := 0, minor := 0, sid := 127 }) := by decide
theorem test_decode_catLen : decodesTo [0b01000, 0, 0x40] = some (.catLen 0x40) := by decide
theorem test_decode_catLookup : decodesTo [0b01001, 0, 0x90] = some (.catLookup 0x90) := by decide
theorem test_decode_catCheck : decodesTo [0b01010, 0] = some (.catCheck) := by decide
theorem test_decode_msgNew :
    decodesTo [0b01011, 0, 0x40, 1, 1, 0x00, 1, 0x0A, 0] =
      some (.msgNew 0x40 (some [0x00, 0x0A])) := by decide
theorem test_decode_msgNew_omitted : decodesTo [0b01011, 0, 0x40, 0] = some (.msgNew 0x40 none) := by decide
theorem test_decode_msgDec : decodesTo [0b01100, 0, 1, 0x23, 1, 0x10, 0] = some (.msgDec [0x23, 0x10]) := by decide
theorem test_decode_msgHex :
    decodesTo [0b01101, 0, 0x40, 0x00, 0x0A] =
      some (.msgHex { op := 0x40, payload := [0x00, 0x0A] }) := by decide
theorem test_decode_msgEq :
    decodesTo [0b01110, 0, 0x23, 0x10, 0x0D] =
      some (.msgEq { op := 0x23, payload := [0x10] } { op := 0x0D, payload := [] }) := by decide
theorem test_decode_unused0F : decodesTo [0b01111, 0] = some (.unused0F) := by decide
theorem test_decode_pkEng :
    decodesTo [0b10000, 0, 0xE1, 5, 0, 3, 0x55, 1, 0, 1, 9, 0] =
      some (.pkEng 0xE1 5 3 0x55 1 none (some 9) none) := by decide
theorem test_decode_pkAlev : decodesTo [0b10001, 0, 0x90, 0x00, 0x0A, 0xFB, 0x41] = some (.pkAlev 0x90 10 64321) := by decide
theorem test_decode_pkCsrpt :
    decodesTo [0b10010, 0, 0xE3, 0xFF, 0xFE, 0, 4, 4, 0x65, 1, 2] =
      some (.pkCsrpt 0xE3 0xFFFE 0 4 4 0x65 (some 2)) := by decide
theorem test_decode_pkName : decodesTo [0b10011, 0, 0xE2, 1, 0x43, 1, 0x41, 0] = some (.pkName 0xE2 [0x43, 0x41]) := by decide
theorem test_decode_pkU16 : decodesTo [0b10100, 0, 0x40, 0x00, 0x0A] = some (.pkU16 0x40 10) := by decide
theorem test_decode_pkU8 : decodesTo [0b10101, 0, 0x23, 0x10] = some (.pkU8 0x23 16) := by decide
theorem test_decode_unused16 : decodesTo [0b10110, 0] = some (.unused16) := by decide
theorem test_decode_unused17 : decodesTo [0b10111, 0] = some (.unused17) := by decide
theorem test_decode_frmEnc :
    decodesTo [0b11000, 0, 0, 0, 127, 1, 1, 0x23, 0x10] =
      some (.frmEnc { header := { major := 0, minor := 0, sid := 127 }, message := some { op := 0x23, payload := [0x10] }, rtr := true }) := by decide
theorem test_decode_frmScan : decodesTo [0b11001, 0, 1, 0x3A, 1, 0x53, 0] = some (.frmScan [0x3A, 0x53]) := by decide
theorem test_decode_frmEq :
    decodesTo [0b11010, 0, 0, 0, 127, 0, 0, 1, 3, 33, 1, 1, 0x0D] =
      some (.frmEq { header := { major := 0, minor := 0, sid := 127 }, message := none, rtr := false } { header := { major := 1, minor := 3, sid := 33 }, message := some { op := 0x0D, payload := [] }, rtr := true }) := by decide
theorem test_decode_unused1B : decodesTo [0b11011, 0] = some (.unused1B) := by decide
theorem test_decode_unused1C : decodesTo [0b11100, 0] = some (.unused1C) := by decide
theorem test_decode_unused1D : decodesTo [0b11101, 0] = some (.unused1D) := by decide
theorem test_decode_unused1E : decodesTo [0b11110, 0] = some (.unused1E) := by decide
theorem test_decode_unused1F : decodesTo [0b11111, 0] = some (.unused1F) := by decide

/-! Rows without an operation code: the data formats (R50), the two opcode values R114 pins, and the entries R115 names. -/

theorem test_decode_formatPri : decodesTo [0, 2, 0x74] = some (.formatPri 0x74) := by decide
theorem test_decode_formatHdr : decodesTo [1, 2, 0x0F, 0xE0] = some (.formatHdr 0x0F 0xE0) := by decide
theorem test_decode_formatCanid : decodesTo [2, 2, 0x03, 0xA1] = some (.formatCanid 0x3A1) := by decide
theorem test_decode_formatMsg : decodesTo [3, 2, 1, 0x23, 1, 0x10, 0] = some (.formatMsg [0x23, 0x10]) := by decide
theorem test_decode_formatWire : decodesTo [4, 2, 1, 0x3A, 0] = some (.formatWire [0x3A]) := by decide
theorem test_decode_entrySessionKeepAlive : decodesTo [0b00100011, 0, 0x10] = some (.entrySessionKeepAlive 16) := by decide
theorem test_decode_entryRequestEngineSession :
    decodesTo [0b01000000, 0, 0x00, 0x0A] =
      some (.entryRequestEngineSession 10) := by decide
theorem test_decode_entryAcon : decodesTo [5, 2, 0x00, 0x0A, 0xFB, 0x41] = some (.entryAcon 10 64321) := by decide
theorem test_decode_entryEngineReport :
    decodesTo [6, 2, 1, 5, 0, 3, 0x55, 1, 0, 0, 1, 7] =
      some (.entryEngineReport 1 5 3 0x55 1 none none (some 7)) := by decide
theorem test_decode_entryCommandStationReport :
    decodesTo [7, 2, 3, 0xFF, 0xFE, 0, 4, 4, 0x65, 0] =
      some (.entryCommandStationReport 3 0xFFFE 0 4 4 0x65 none) := by decide
theorem test_decode_entryModuleName : decodesTo [8, 2, 2, 1, 0x43, 0] = some (.entryModuleName 2 [0x43]) := by decide
theorem test_decode_entryCmderr : decodesTo [9, 2, 1, 1, 5, 0] = some (.entryCmderr (some [5])) := by decide
theorem test_decode_entryErr : decodesTo [10, 2, 0] = some (.entryErr none) := by decide

/-! The 130 ROM rows: the opcode value of R71 and G3 (93_implementation_defined.md), its page, `v >> 5` payload bytes. -/

theorem test_decode_rom_rows_0_bytes :
    decodesTo [0x00, 1] = some (.romACK []) ∧
    decodesTo [0x01, 1] = some (.romNAK []) ∧
    decodesTo [0x02, 1] = some (.romHLT []) ∧
    decodesTo [0x03, 1] = some (.romBON []) ∧
    decodesTo [0x04, 1] = some (.romTOF []) ∧
    decodesTo [0x05, 1] = some (.romTON []) ∧
    decodesTo [0x06, 1] = some (.romESTOP []) ∧
    decodesTo [0x07, 1] = some (.romARST []) ∧
    decodesTo [0x08, 1] = some (.romRTOF []) ∧
    decodesTo [0x09, 1] = some (.romRTON []) ∧
    decodesTo [0x0A, 1] = some (.romRESTP []) ∧
    decodesTo [0x0C, 1] = some (.romRSTAT []) ∧
    decodesTo [0x0D, 1] = some (.romQNN []) ∧
    decodesTo [0x10, 1] = some (.romRQNP []) ∧
    decodesTo [0x11, 1] = some (.romRQMN []) := by decide
theorem test_decode_rom_rows_1_bytes :
    decodesTo [0x21, 0, 1] = some (.romKLOC [1]) ∧
    decodesTo [0x22, 0, 1] = some (.romQLOC [1]) ∧
    decodesTo [0x23, 1, 1] = some (.romDKEEP [1]) ∧
    decodesTo [0x30, 0, 1] = some (.romDBG1 [1]) ∧
    decodesTo [0x3F, 0, 1] = some (.romEXTC [1]) := by decide
theorem test_decode_rom_rows_2_bytes :
    decodesTo [0x40, 1, 1, 2] = some (.romRLOC [1, 2]) ∧
    decodesTo [0x41, 0, 1, 2] = some (.romQCON [1, 2]) ∧
    decodesTo [0x42, 0, 1, 2] = some (.romSNN [1, 2]) ∧
    decodesTo [0x43, 0, 1, 2] = some (.romALOC [1, 2]) ∧
    decodesTo [0x44, 0, 1, 2] = some (.romSTMOD [1, 2]) ∧
    decodesTo [0x45, 0, 1, 2] = some (.romPCON [1, 2]) ∧
    decodesTo [0x46, 0, 1, 2] = some (.romKCON [1, 2]) ∧
    decodesTo [0x47, 0, 1, 2] = some (.romDSPD [1, 2]) ∧
    decodesTo [0x48, 0, 1, 2] = some (.romDFLG [1, 2]) ∧
    decodesTo [0x49, 0, 1, 2] = some (.romDFNON [1, 2]) ∧
    decodesTo [0x4A, 0, 1, 2] = some (.romDFNOF [1, 2]) ∧
    decodesTo [0x4C, 0, 1, 2] = some (.romSSTAT [1, 2]) ∧
    decodesTo [0x4F, 0, 1, 2] = some (.romNNRSM [1, 2]) ∧
    decodesTo [0x50, 0, 1, 2] = some (.romRQNN [1, 2]) ∧
    decodesTo [0x51, 0, 1, 2] = some (.romNNREL [1, 2]) ∧
    decodesTo [0x52, 0, 1, 2] = some (.romNNACK [1, 2]) ∧
    decodesTo [0x53, 0, 1, 2] = some (.romNNLRN [1, 2]) ∧
    decodesTo [0x54, 0, 1, 2] = some (.romNNULN [1, 2]) ∧
    decodesTo [0x55, 0, 1, 2] = some (.romNNCLR [1, 2]) ∧
    decodesTo [0x56, 0, 1, 2] = some (.romNNEVN [1, 2]) ∧
    decodesTo [0x57, 0, 1, 2] = some (.romNERD [1, 2]) ∧
    decodesTo [0x58, 0, 1, 2] = some (.romRQEVN [1, 2]) ∧
    decodesTo [0x59, 0, 1, 2] = some (.romWRACK [1, 2]) ∧
    decodesTo [0x5A, 0, 1, 2] = some (.romRQDAT [1, 2]) ∧
    decodesTo [0x5B, 0, 1, 2] = some (.romRQDDS [1, 2]) ∧
    decodesTo [0x5C, 0, 1, 2] = some (.romBOOTM [1, 2]) ∧
    decodesTo [0x5D, 0, 1, 2] = some (.romENUM [1, 2]) ∧
    decodesTo [0x5E, 0, 1, 2] = some (.romNNRST [1, 2]) ∧
    decodesTo [0x5F, 0, 1, 2] = some (.romEXTC1 [1, 2]) := by decide
theorem test_decode_rom_rows_3_bytes :
    decodesTo [0x60, 0, 1, 2, 3] = some (.romDFUN [1, 2, 3]) ∧
    decodesTo [0x61, 0, 1, 2, 3] = some (.romGLOC [1, 2, 3]) ∧
    decodesTo [0x63, 0, 1, 2, 3] = some (.romERR [1, 2, 3]) ∧
    decodesTo [0x6F, 0, 1, 2, 3] = some (.romCMDERR [1, 2, 3]) ∧
    decodesTo [0x70, 0, 1, 2, 3] = some (.romEVNLF [1, 2, 3]) ∧
    decodesTo [0x71, 0, 1, 2, 3] = some (.romNVRD [1, 2, 3]) ∧
    decodesTo [0x72, 0, 1, 2, 3] = some (.romNENRD [1, 2, 3]) ∧
    decodesTo [0x73, 0, 1, 2, 3] = some (.romRQNPN [1, 2, 3]) ∧
    decodesTo [0x74, 0, 1, 2, 3] = some (.romNUMEV [1, 2, 3]) ∧
    decodesTo [0x75, 0, 1, 2, 3] = some (.romCANID [1, 2, 3]) ∧
    decodesTo [0x7F, 0, 1, 2, 3] = some (.romEXTC2 [1, 2, 3]) := by decide
theorem test_decode_rom_rows_4_bytes :
    decodesTo [0x80, 0, 1, 2, 3, 4] = some (.romRDCC3 [1, 2, 3, 4]) ∧
    decodesTo [0x82, 0, 1, 2, 3, 4] = some (.romWCVO [1, 2, 3, 4]) ∧
    decodesTo [0x83, 0, 1, 2, 3, 4] = some (.romWCVB [1, 2, 3, 4]) ∧
    decodesTo [0x84, 0, 1, 2, 3, 4] = some (.romQCVS [1, 2, 3, 4]) ∧
    decodesTo [0x85, 0, 1, 2, 3, 4] = some (.romPCVS [1, 2, 3, 4]) ∧
    decodesTo [0x90, 0, 1, 2, 3, 4] = some (.romACON [1, 2, 3, 4]) ∧
    decodesTo [0x91, 0, 1, 2, 3, 4] = some (.romACOF [1, 2, 3, 4]) ∧
    decodesTo [0x92, 0, 1, 2, 3, 4] = some (.romAREQ [1, 2, 3, 4]) ∧
    decodesTo [0x93, 0, 1, 2, 3, 4] = some (.romARON [1, 2, 3, 4]) ∧
    decodesTo [0x94, 0, 1, 2, 3, 4] = some (.romAROF [1, 2, 3, 4]) ∧
    decodesTo [0x95, 0, 1, 2, 3, 4] = some (.romEVULN [1, 2, 3, 4]) ∧
    decodesTo [0x96, 0, 1, 2, 3, 4] = some (.romNVSET [1, 2, 3, 4]) ∧
    decodesTo [0x97, 0, 1, 2, 3, 4] = some (.romNVANS [1, 2, 3, 4]) ∧
    decodesTo [0x98, 0, 1, 2, 3, 4] = some (.romASON [1, 2, 3, 4]) ∧
    decodesTo [0x99, 0, 1, 2, 3, 4] = some (.romASOF [1, 2, 3, 4]) ∧
    decodesTo [0x9A, 0, 1, 2, 3, 4] = some (.romASRQ [1, 2, 3, 4]) ∧
    decodesTo [0x9B, 0, 1, 2, 3, 4] = some (.romPARAN [1, 2, 3, 4]) ∧
    decodesTo [0x9C, 0, 1, 2, 3, 4] = some (.romREVAL [1, 2, 3, 4]) ∧
    decodesTo [0x9D, 0, 1, 2, 3, 4] = some (.romARSON [1, 2, 3, 4]) ∧
    decodesTo [0x9E, 0, 1, 2, 3, 4] = some (.romARSOF [1, 2, 3, 4]) ∧
    decodesTo [0x9F, 0, 1, 2, 3, 4] = some (.romEXTC3 [1, 2, 3, 4]) := by decide
theorem test_decode_rom_rows_5_bytes :
    decodesTo [0xA0, 0, 1, 2, 3, 4, 5] = some (.romRDCC4 [1, 2, 3, 4, 5]) ∧
    decodesTo [0xA2, 0, 1, 2, 3, 4, 5] = some (.romWCVS [1, 2, 3, 4, 5]) ∧
    decodesTo [0xB0, 0, 1, 2, 3, 4, 5] = some (.romACON1 [1, 2, 3, 4, 5]) ∧
    decodesTo [0xB1, 0, 1, 2, 3, 4, 5] = some (.romACOF1 [1, 2, 3, 4, 5]) ∧
    decodesTo [0xB2, 0, 1, 2, 3, 4, 5] = some (.romREQEV [1, 2, 3, 4, 5]) ∧
    decodesTo [0xB3, 0, 1, 2, 3, 4, 5] = some (.romARON1 [1, 2, 3, 4, 5]) ∧
    decodesTo [0xB4, 0, 1, 2, 3, 4, 5] = some (.romAROF1 [1, 2, 3, 4, 5]) ∧
    decodesTo [0xB5, 0, 1, 2, 3, 4, 5] = some (.romNEVAL [1, 2, 3, 4, 5]) ∧
    decodesTo [0xB6, 0, 1, 2, 3, 4, 5] = some (.romPNN [1, 2, 3, 4, 5]) ∧
    decodesTo [0xB8, 0, 1, 2, 3, 4, 5] = some (.romASON1 [1, 2, 3, 4, 5]) ∧
    decodesTo [0xB9, 0, 1, 2, 3, 4, 5] = some (.romASOF1 [1, 2, 3, 4, 5]) ∧
    decodesTo [0xBD, 0, 1, 2, 3, 4, 5] = some (.romARSON1 [1, 2, 3, 4, 5]) ∧
    decodesTo [0xBE, 0, 1, 2, 3, 4, 5] = some (.romARSOF1 [1, 2, 3, 4, 5]) ∧
    decodesTo [0xBF, 0, 1, 2, 3, 4, 5] = some (.romEXTC4 [1, 2, 3, 4, 5]) := by decide
theorem test_decode_rom_rows_6_bytes :
    decodesTo [0xC0, 0, 1, 2, 3, 4, 5, 6] = some (.romRDCC5 [1, 2, 3, 4, 5, 6]) ∧
    decodesTo [0xC1, 0, 1, 2, 3, 4, 5, 6] = some (.romWCVOA [1, 2, 3, 4, 5, 6]) ∧
    decodesTo [0xC2, 0, 1, 2, 3, 4, 5, 6] = some (.romCABDAT [1, 2, 3, 4, 5, 6]) ∧
    decodesTo [0xCF, 0, 1, 2, 3, 4, 5, 6] = some (.romFCLK [1, 2, 3, 4, 5, 6]) ∧
    decodesTo [0xD0, 0, 1, 2, 3, 4, 5, 6] = some (.romACON2 [1, 2, 3, 4, 5, 6]) ∧
    decodesTo [0xD1, 0, 1, 2, 3, 4, 5, 6] = some (.romACOF2 [1, 2, 3, 4, 5, 6]) ∧
    decodesTo [0xD2, 0, 1, 2, 3, 4, 5, 6] = some (.romEVLRN [1, 2, 3, 4, 5, 6]) ∧
    decodesTo [0xD3, 0, 1, 2, 3, 4, 5, 6] = some (.romEVANS [1, 2, 3, 4, 5, 6]) ∧
    decodesTo [0xD4, 0, 1, 2, 3, 4, 5, 6] = some (.romARON2 [1, 2, 3, 4, 5, 6]) ∧
    decodesTo [0xD5, 0, 1, 2, 3, 4, 5, 6] = some (.romAROF2 [1, 2, 3, 4, 5, 6]) ∧
    decodesTo [0xD8, 0, 1, 2, 3, 4, 5, 6] = some (.romASON2 [1, 2, 3, 4, 5, 6]) ∧
    decodesTo [0xD9, 0, 1, 2, 3, 4, 5, 6] = some (.romASOF2 [1, 2, 3, 4, 5, 6]) ∧
    decodesTo [0xDD, 0, 1, 2, 3, 4, 5, 6] = some (.romARSON2 [1, 2, 3, 4, 5, 6]) ∧
    decodesTo [0xDE, 0, 1, 2, 3, 4, 5, 6] = some (.romARSOF2 [1, 2, 3, 4, 5, 6]) ∧
    decodesTo [0xDF, 0, 1, 2, 3, 4, 5, 6] = some (.romEXTC5 [1, 2, 3, 4, 5, 6]) := by decide
theorem test_decode_rom_rows_7_bytes :
    decodesTo [0xE0, 0, 1, 2, 3, 4, 5, 6, 7] = some (.romRDCC6 [1, 2, 3, 4, 5, 6, 7]) ∧
    decodesTo [0xE1, 0, 1, 2, 3, 4, 5, 6, 7] = some (.romPLOC [1, 2, 3, 4, 5, 6, 7]) ∧
    decodesTo [0xE2, 0, 1, 2, 3, 4, 5, 6, 7] = some (.romNAME [1, 2, 3, 4, 5, 6, 7]) ∧
    decodesTo [0xE3, 0, 1, 2, 3, 4, 5, 6, 7] = some (.romSTAT [1, 2, 3, 4, 5, 6, 7]) ∧
    decodesTo [0xEF, 0, 1, 2, 3, 4, 5, 6, 7] = some (.romPARAMS [1, 2, 3, 4, 5, 6, 7]) ∧
    decodesTo [0xF0, 0, 1, 2, 3, 4, 5, 6, 7] = some (.romACON3 [1, 2, 3, 4, 5, 6, 7]) ∧
    decodesTo [0xF1, 0, 1, 2, 3, 4, 5, 6, 7] = some (.romACOF3 [1, 2, 3, 4, 5, 6, 7]) ∧
    decodesTo [0xF2, 0, 1, 2, 3, 4, 5, 6, 7] = some (.romENRSP [1, 2, 3, 4, 5, 6, 7]) ∧
    decodesTo [0xF3, 0, 1, 2, 3, 4, 5, 6, 7] = some (.romARON3 [1, 2, 3, 4, 5, 6, 7]) ∧
    decodesTo [0xF4, 0, 1, 2, 3, 4, 5, 6, 7] = some (.romAROF3 [1, 2, 3, 4, 5, 6, 7]) ∧
    decodesTo [0xF5, 0, 1, 2, 3, 4, 5, 6, 7] = some (.romEVLRNI [1, 2, 3, 4, 5, 6, 7]) ∧
    decodesTo [0xF6, 0, 1, 2, 3, 4, 5, 6, 7] = some (.romACDAT [1, 2, 3, 4, 5, 6, 7]) ∧
    decodesTo [0xF7, 0, 1, 2, 3, 4, 5, 6, 7] = some (.romARDAT [1, 2, 3, 4, 5, 6, 7]) ∧
    decodesTo [0xF8, 0, 1, 2, 3, 4, 5, 6, 7] = some (.romASON3 [1, 2, 3, 4, 5, 6, 7]) ∧
    decodesTo [0xF9, 0, 1, 2, 3, 4, 5, 6, 7] = some (.romASOF3 [1, 2, 3, 4, 5, 6, 7]) ∧
    decodesTo [0xFA, 0, 1, 2, 3, 4, 5, 6, 7] = some (.romDDES [1, 2, 3, 4, 5, 6, 7]) ∧
    decodesTo [0xFB, 0, 1, 2, 3, 4, 5, 6, 7] = some (.romDDRS [1, 2, 3, 4, 5, 6, 7]) ∧
    decodesTo [0xFD, 0, 1, 2, 3, 4, 5, 6, 7] = some (.romARSON3 [1, 2, 3, 4, 5, 6, 7]) ∧
    decodesTo [0xFE, 0, 1, 2, 3, 4, 5, 6, 7] = some (.romARSOF3 [1, 2, 3, 4, 5, 6, 7]) ∧
    decodesTo [0xFF, 0, 1, 2, 3, 4, 5, 6, 7] = some (.romEXTC6 [1, 2, 3, 4, 5, 6, 7]) := by decide

/-- Encoding what was decoded gives the same bytes, for one word of each kind of operand. -/
theorem test_encode :
    encode (.hdrEnc 1 3 289) = [0b00010, 0, 1, 3, 0x01, 0x21] ∧
    encode (.msgNew 0x40 (some [0x00, 0x0A])) = [0b01011, 0, 0x40, 1, 1, 0x00, 1, 0x0A, 0] ∧
    encode (.romQNN []) = [0x0D, 1] ∧ encode (.romACOF [0, 10, 0xFB, 0x41]) = [0x91, 0, 0, 10, 0xFB, 0x41] ∧
    encode (.entryModuleName 2 [0x43]) = [8, 2, 2, 1, 0x43, 0] := by decide

/-! One step each, from 95_test_vectors.md section 3. -/

theorem test_priPack : resOf (run [0x00, 0, 1, 3]) = some (.pri 0x70) ∧ resOf (run [0x00, 0, 3, 2]) = some (.pri 0xE0) := by decide
theorem test_priUnpack : resOf (run [0x01, 0, 0x74]) = some (.priorities 1 3) ∧ resOf (run [0x01, 0, 0x8F]) = some (.priorities 2 0) := by decide
/-- 95 section 3.2: the largest source id, and E5. -/
theorem test_hdrEnc : resOf (run [0x02, 0, 2, 2, 0, 127]) = some (.header { major := 2, minor := 2, sid := 127 }) ∧
    errOf (run [0x02, 0, 2, 2, 1, 0]) = some (.kind .invalidIdentifier) ∧
    errOf (run [0x02, 0, 2, 2, 0, 128]) = some (.kind .invalidIdentifier) := by decide
theorem test_hdrDec : resOf (run [0x03, 0, 1, 0x12, 1, 0x34, 0]) = some (.header { major := 0, minor := 1, sid := 17 }) ∧
    errOf (run [0x03, 0, 1, 0x74, 0]) = some (.kind .insufficientData) ∧
    resOf (run [0x03, 0, 1, 0x74, 0]) = none := by decide
theorem test_hdrReg : resOf (run [0x04, 0, 1, 3, 33]) = some (.packed 0x74 0x20) ∧ resOf (run [0x04, 0, 2, 3, 5]) = some (.packed 0xB0 0xA0) := by decide
theorem test_hdrCanid : resOf (run [0x05, 0, 1, 3, 33]) = some (.canId 0x03 0xA1) ∧ resOf (run [0x05, 0, 2, 1, 100]) = some (.canId 0x04 0xE4) := by decide
/-- E1, with the byte port. -/
theorem test_hdrAscii : resOf (run [0x06, 0, 1, 3, 33]) = some (.ascii [0x37, 0x34, 0x32, 0x30]) ∧
    streamOf (run [0x06, 0, 1, 3, 33]) = [(0x37, false), (0x34, false), (0x32, false), (0x30, true)] := by decide
theorem test_hdrEq : resOf (run [0x07, 0, 2, 2, 5, 2, 3, 5]) = some (.bit false) ∧ resOf (run [0x07, 0, 2, 2, 5, 2, 2, 5]) = some (.bit true) := by decide
theorem test_catLen : resOf (run [0x08, 0, 0x41]) = some (.count 2) ∧ resOf (run [0x08, 0, 0xDF]) = some (.count 6) := by decide
theorem test_catLookup : resOf (run [0x09, 0, 0x90]) = some (.descriptor (entry 0x90 "ACON").2) ∧
    errOf (run [0x09, 0, 0x41]) = some (.kind .unknownOpcode) := by decide
theorem test_catCheck : resOf (run [0x0A, 0]) = some (.bit true) ∧
    resOf (step { st with rom := catBad, host := [[0x0A, 0]] }) = some (.bit false) ∧
    resOf (step { st with rom := [], host := [[0x0A, 0]] }) = some (.bit true) := by decide
theorem test_msgNew : resOf (run [0x0B, 0, 0x40, 0]) = some (.message { op := 0x40, payload := [0, 0] }) ∧
    errOf (run [0x0B, 0, 0x40, 1, 1, 0x0A, 0]) = some (.kind .payloadLengthMismatch) := by decide
theorem test_msgDec : resOf (run [0x0C, 0, 1, 0x23, 1, 0x10, 0]) = some (.message { op := 0x23, payload := [0x10] }) ∧
    errOf (run [0x0C, 0, 0]) = some (.kind .emptyInput) ∧ errOf (run [0x0C, 0, 1, 0x41, 0]) = some (.kind .unknownOpcode) ∧
    errOf (run [0x0C, 0, 1, 0x40, 1, 0, 0]) = some (.kind .payloadLengthMismatch) := by decide
theorem test_msgHex : resOf (run [0x0D, 0, 0x40, 0x00, 0x0A]) = some (.ascii [0x34, 0x30, 0x30, 0x30, 0x30, 0x41]) := by decide
theorem test_msgEq : resOf (run [0x0E, 0, 0x23, 0x10, 0x23, 0x11]) = some (.bit false) ∧
    resOf (run [0x0E, 0, 0x23, 0x10, 0x23, 0x10]) = some (.bit true) := by decide
/-- R151's example, and `speed` 200, of which bit 7 is lost. -/
theorem test_pkEng : resOf (run [0x10, 0, 0xE1, 5, 0, 3, 0x55, 1, 0, 0, 0]) =
      some (.message { op := 0xE1, payload := [0x05, 0x00, 0x03, 0xD5, 0x00, 0x00, 0x00] }) ∧
    resOf (run [0x10, 0, 0xE1, 5, 1, 3, 200, 0, 0, 1, 9, 0]) =
      some (.message { op := 0xE1, payload := [0x05, 0x01, 0x03, 0x48, 0x00, 0x09, 0x00] }) := by decide
/-- E4. -/
theorem test_pkAlev : resOf (run [0x11, 0, 0x90, 0x00, 0x0A, 0xFB, 0x41]) =
      some (.message { op := 0x90, payload := [0x00, 0x0A, 0xFB, 0x41] }) ∧
    errOf (run [0x11, 0, 0x40, 0x00, 0x0A, 0xFB, 0x41]) = some (.kind .payloadLengthMismatch) := by decide
/-- R153's example. -/
theorem test_pkCsrpt : resOf (run [0x12, 0, 0xE3, 0xFF, 0xFE, 0, 4, 4, 0x65, 0]) =
    some (.message { op := 0xE3, payload := [0xFF, 0xFE, 0x00, 0x04, 0x04, 0x65, 0x00] }) := by decide
/-- R154's example: "CANACC8XYZ" keeps its first seven bytes. -/
theorem test_pkName_long : resOf (exec (.pkName 0xE2 [0x43, 0x41, 0x4E, 0x41, 0x43, 0x43, 0x38, 0x58, 0x59, 0x5A]) st) =
    some (.message { op := 0xE2, payload := [0x43, 0x41, 0x4E, 0x41, 0x43, 0x43, 0x38] }) := by decide
/-- R154's example: "CANCMD" is padded on the left. -/
theorem test_pkName_short : resOf (exec (.pkName 0xE2 [0x43, 0x41, 0x4E, 0x43, 0x4D, 0x44]) st) =
    some (.message { op := 0xE2, payload := [Config.namePad, 0x43, 0x41, 0x4E, 0x43, 0x4D, 0x44] }) := by rfl
theorem test_pkU16 : resOf (run [0x14, 0, 0x40, 0x00, 0x0A]) = some (.message { op := 0x40, payload := [0x00, 0x0A] }) ∧
    refusalOf (run [0x14, 0, 0x41, 0x00, 0x0A]) = some (.opcodeAbsent 0x41) := by decide
theorem test_pkU8 : resOf (run [0x15, 0, 0x23, 0x10]) = some (.message { op := 0x23, payload := [0x10] }) ∧
    errOf (run [0x15, 0, 0x40, 0x10]) = some (.kind .payloadLengthMismatch) := by decide
theorem test_unused : refusalOf (run [0x0F, 0]) = some (.noOperation 0x0F) ∧ refusalOf (run [0x16, 0]) = some (.noOperation 0x16) ∧
    refusalOf (run [0x17, 0]) = some (.noOperation 0x17) ∧ refusalOf (run [0x1B, 0]) = some (.noOperation 0x1B) ∧
    refusalOf (run [0x1C, 0]) = some (.noOperation 0x1C) ∧ refusalOf (run [0x1D, 0]) = some (.noOperation 0x1D) ∧
    refusalOf (run [0x1E, 0]) = some (.noOperation 0x1E) ∧ refusalOf (run [0x1F, 0]) = some (.noOperation 0x1F) := by decide

/-- The header of E2. -/
def hE2 : Header := { major := 0, minor := 0, sid := 127 }

/-- E2's frame. -/
def fE2 : Frame := { header := hE2, message := some { op := 0x40, payload := [0x00, 0x0A] }, rtr := false }

/-- E3's second frame. -/
def fE3 : Frame := { header := hE2, message := some { op := 0x23, payload := [0x10] }, rtr := false }

/-- ":S0FE0N40000A;" -/
def wE2 : List Byte := [0x3A, 0x53, 0x30, 0x46, 0x45, 0x30, 0x4E, 0x34, 0x30, 0x30, 0x30, 0x30, 0x41, 0x3B]

/-- ":S0FE0N2310;" -/
def wE3 : List Byte := [0x3A, 0x53, 0x30, 0x46, 0x45, 0x30, 0x4E, 0x32, 0x33, 0x31, 0x30, 0x3B]

/-- R171's example. -/
theorem test_frmEnc : resOf (exec (.frmEnc fE2) st) = some (.ascii wE2) := by decide
/-- R173: without a message the rendering is 8 bytes. -/
theorem test_frmEnc_absent : resOf (exec (.frmEnc { header := hE2, message := none, rtr := true }) st) =
    some (.ascii [0x3A, 0x53, 0x30, 0x46, 0x45, 0x30, 0x52, 0x3B]) := by decide
/-- E3: two frames, spans (0, 14) and (14, 26). -/
theorem test_frmScan : resOf (exec (.frmScan (wE2 ++ wE3)) st) = some (.frames [fE2, fE3]) ∧
    spansOut (exec (.frmScan (wE2 ++ wE3)) st) =
      [{ start := 0, stop := 14, outcome := .frame }, { start := 14, stop := 26, outcome := .frame }] := by decide
/-- R188's three drop reasons, and ":" abandoned for a later ":" (R183): "::S0FE0N400;", ":S0FE0N4100;", ":S0FE0N23;". -/
theorem test_frmScan_drops : spansOut (exec (.frmScan ([0x3A, 0x3A, 0x53, 0x30, 0x46, 0x45, 0x30, 0x4E, 0x34, 0x30, 0x30, 0x3B] ++
      [0x3A, 0x53, 0x30, 0x46, 0x45, 0x30, 0x4E, 0x34, 0x31, 0x30, 0x30, 0x3B] ++
      [0x3A, 0x53, 0x30, 0x46, 0x45, 0x30, 0x4E, 0x32, 0x33, 0x3B])) st) =
    [{ start := 1, stop := 12, outcome := .drop .oddHexLength },
     { start := 12, stop := 24, outcome := .drop (.codec .unknownOpcode) },
     { start := 24, stop := 34, outcome := .drop (.codec .payloadLengthMismatch) }] := by decide
theorem test_frmEq : resOf (exec (.frmEq fE3 { fE3 with rtr := true }) st) = some (.bit true) ∧
    resOf (exec (.frmEq fE3 { fE3 with message := none }) st) = some (.bit false) ∧
    resOf (exec (.frmEq fE2 fE3) st) = some (.bit false) := by decide

theorem test_formatPri : resOf (run [0, 2, 0x74]) = some (.priorities 1 3) := by decide
theorem test_formatHdr : resOf (run [1, 2, 0x0F, 0xE0]) = some (.header hE2) := by decide
theorem test_formatCanid : resOf (run [2, 2, 0x05, 0x85]) = some (.canId 0x05 0x85) := by decide
theorem test_formatMsg : resOf (exec (.formatMsg [0x40, 0x00, 0x0A]) st) = some (.message { op := 0x40, payload := [0x00, 0x0A] }) := by decide
theorem test_formatWire : resOf (exec (.formatWire wE3) st) = some (.frames [fE3]) := by decide
theorem test_entrySessionKeepAlive : resOf (run [0x23, 0, 0x10]) = some (.message { op := 0x23, payload := [0x10] }) := by decide
theorem test_entryRequestEngineSession : resOf (run [0x40, 0, 0x00, 0x0A]) = some (.message { op := 0x40, payload := [0x00, 0x0A] }) := by decide
/-- E4. -/
theorem test_entryAcon : resOf (run [5, 2, 0x00, 0x0A, 0xFB, 0x41]) = some (.message { op := 0x90, payload := [0x00, 0x0A, 0xFB, 0x41] }) := by decide
theorem test_entryEngineReport : resOf (run [6, 2, 1, 5, 0, 3, 0x55, 1, 0, 0, 0]) =
    some (.message { op := 0xE1, payload := [0x05, 0x00, 0x03, 0xD5, 0x00, 0x00, 0x00] }) := by decide
theorem test_entryCommandStationReport : resOf (run [7, 2, 3, 0xFF, 0xFE, 0, 4, 4, 0x65, 0]) =
    some (.message { op := 0xE3, payload := [0xFF, 0xFE, 0x00, 0x04, 0x04, 0x65, 0x00] }) := by decide
theorem test_entryModuleName : resOf (exec (.entryModuleName 2 [0x43, 0x41, 0x4E, 0x41, 0x43, 0x43, 0x38]) st) =
    some (.message { op := 0xE2, payload := [0x43, 0x41, 0x4E, 0x41, 0x43, 0x43, 0x38] }) := by decide
theorem test_entryCmderr : resOf (exec (.entryCmderr none) { st with rom := catErr }) = some (.message { op := 0x6F, payload := [0, 0, 0] }) ∧
    refusalOf (exec (.entryCmderr none) st) = some (.noSuchEntry "CMDERR") := by decide
theorem test_entryErr : resOf (exec (.entryErr (some [0, 10, 5])) { st with rom := catErr }) =
    some (.message { op := 0x63, payload := [0, 10, 5] }) := by decide
/-- Each ROM row presents its own opcode: over a ROM with that one entry it answers the message, over CAT.CHECK-valid CAT_T without
it UnknownOpcode. -/
theorem test_rom_rows : (romRows.all fun row =>
    resOf (exec (row.2 (List.replicate (row.1.toNat / 32) 7)) { st with rom := [entry row.1 "X"] }) ==
        some (.message { op := row.1, payload := List.replicate (row.1.toNat / 32) 7 }) &&
      errOf (exec (row.2 (List.replicate (row.1.toNat / 32) 7)) { st with rom := [] }) == some (.kind .unknownOpcode)) = true := by decide

/-- The ROM at reset has the canonical form. -/
theorem test_reset_rom_canonical : romWf State.reset.rom = true := by decide

/-! The words of the table, from reset. -/

theorem test_word_runs : resOf (step (State.reset.withFetchWord 8 0x00)) = some (.pri 0) := by decide
theorem test_word_catCheck : resOf (step (State.reset.withFetchWord 8 0x0A)) = some (.bit true) := by decide
theorem test_word_rom_row : resOf (step (State.reset.withFetchWord 8 0x90)) = some (.message { op := 0x90, payload := [0, 0, 0, 0] }) := by decide

/-! Witnesses: for each statement with hypotheses, what meets them, each clause at the boundary of its range. -/

theorem witness_HdrEncBuildsOrRejects : (127#16).toNat ≤ 127 ∧ 127 < (128#16).toNat ∧ 127 < (65535#16).toNat := by decide
theorem witness_HdrDecDecodesTwoBytes :
    ([] : List Byte).length < 2 ∧ [0x74#8].length < 2 ∧ 2 < [0x74#8, 0x20#8, 0x00#8].length := by decide
theorem witness_HeaderRoundTripsThroughRegisterForm : (127#16).toNat ≤ 127 ∧ (0#16).toNat ≤ 127 := by decide
theorem witness_CatLookupReadsTheRom : romCheck st.rom = true ∧ romRead st.rom 0x90 = some (entry 0x90 "ACON").2 ∧
    romRead st.rom 0x91 = none ∧ romRead st.rom 0xFF = none := by decide
theorem witness_CatCheckTestsEveryEntry : romWf st.rom = true ∧ romCheck st.rom = true ∧
    romWf catBad = true ∧ romCheck catBad = false ∧ romWf [] = true := by decide
theorem witness_InvalidImageIsRefused : romCheck { st with rom := catBad }.rom = false ∧ Instr.nameOk [0x41] = true := by decide
theorem witness_MsgNewChecksTheLength : romCheck st.rom = true ∧ Present st 0x40 ∧ Present st 0x0D ∧
    [0x00#8, 0x0A#8].length = (0x40#8).toNat / 32 ∧ [0x0A#8].length ≠ (0x40#8).toNat / 32 ∧
    [0#8, 0#8, 0#8].length ≠ (0x40#8).toNat / 32 ∧ ([] : List Byte).length = (0x0D#8).toNat / 32 := by
  unfold Present; decide
theorem witness_AbsentOpcodeIsRefused : romCheck st.rom = true ∧ ¬ Present st 0x41 ∧ ¬ Present st 0x00 ∧
    Instr.nameOk [] = true := by
  unfold Present; decide
theorem witness_MsgDecTestsInOrder : romCheck st.rom = true ∧ ¬ Present st 0x41 ∧ Present st 0x40 ∧
    [0x00#8].length ≠ (0x40#8).toNat / 32 ∧ [0x00#8, 0x0A#8].length = (0x40#8).toNat / 32 := by
  unfold Present; decide
theorem witness_MsgDecInvertsBinaryForm : romCheck st.rom = true ∧ Present st 0x23 ∧ [0x10#8].length = (0x23#8).toNat / 32 := by
  unfold Present; decide
theorem witness_MsgDecInvertsBinaryForm_decoded : ∃ t, exec (.msgDec [0x23, 0x10]) st = .next t ∧
    t.res = some (.message { op := 0x23, payload := [0x10] }) := ⟨_, rfl, rfl⟩
theorem witness_MsgHexPutsTwoDigitsPerByte : ({ op := 0x0D, payload := [] } : Message).lengthOk = true ∧
    ({ op := 0xE1, payload := [1, 2, 3, 4, 5, 6, 7] } : Message).lengthOk = true := by decide
theorem witness_MsgEqComparesBytes : ({ op := 0x23, payload := [0x10] } : Message).lengthOk = true ∧
    ({ op := 0x23, payload := [0x11] } : Message).lengthOk = true := by decide
theorem witness_NotAMessageIsRefused : ({ op := 0x40, payload := [1] } : Message).lengthOk = false ∧
    ({ op := 0x0D, payload := [1] } : Message).lengthOk = false := by decide
theorem witness_PkEngPacksEngineReport : romCheck st.rom = true ∧ Present st 0xE1 ∧ (0xE1#8).toNat / 32 = 7 ∧
    Present st 0x90 ∧ (0x90#8).toNat / 32 ≠ 7 := by
  unfold Present; decide
theorem witness_PkAlevPacksNodeAndEvent : romCheck st.rom = true ∧ Present st 0x90 ∧ (0x90#8).toNat / 32 = 4 ∧
    Present st 0xE1 ∧ (0xE1#8).toNat / 32 ≠ 4 := by
  unfold Present; decide
theorem witness_PkCsrptPacksStationReport : romCheck st.rom = true ∧ Present st 0xE3 ∧ (0xE3#8).toNat / 32 = 7 ∧
    Present st 0x40 ∧ (0x40#8).toNat / 32 ≠ 7 := by
  unfold Present; decide
/-- Names of no, six, seven and eight bytes; the largest ASCII byte and the smallest byte that is not. -/
theorem witness_PkNameTruncatesOrPads : romCheck st.rom = true ∧ Present st 0xE2 ∧ (0xE2#8).toNat / 32 = 7 ∧
    (∀ b ∈ List.replicate 8 0x7F#8, b.toNat < 0x80) ∧ 7 ≤ (List.replicate 8 0x7F#8).length ∧
    7 ≤ (List.replicate 7 0x41#8).length ∧ (List.replicate 6 0x41#8).length < 7 ∧ ([] : List Byte).length < 7 ∧
    (∃ b ∈ [0x41#8, 0x80#8], 0x80 ≤ b.toNat) ∧ Present st 0x40 ∧ (0x40#8).toNat / 32 ≠ 7 := by
  unfold Present; decide
theorem witness_PkU16PacksBigEndian : romCheck st.rom = true ∧ Present st 0x40 ∧ (0x40#8).toNat / 32 = 2 ∧
    Present st 0x23 ∧ (0x23#8).toNat / 32 ≠ 2 := by
  unfold Present; decide
theorem witness_PkU8PacksOneByte : romCheck st.rom = true ∧ Present st 0x23 ∧ (0x23#8).toNat / 32 = 1 ∧
    Present st 0x40 ∧ (0x40#8).toNat / 32 ≠ 1 := by
  unfold Present; decide
theorem witness_FrmEncRendersTheWireForm : fE2.messageOk = true ∧ { fE2 with message := none, rtr := true }.messageOk = true := by decide
theorem witness_FrmEncLength : fE3.messageOk = true ∧ { fE3 with message := none }.messageOk = true := by decide
theorem witness_FrmEqIgnoresRtr : fE2.messageOk = true ∧ fE3.messageOk = true ∧ { fE3 with message := none }.messageOk = true := by decide
theorem witness_FrmScanGivesTheFramesOfTheShapeMatches : romCheck st.rom = true := by decide
/-- The reset scanner is clear, and after ":S0FE0N2" the machine stands in DN. -/
theorem witness_TokenizerAgreesWithShapeMatches : Scanner.cleared.isClear = true ∧
    (scanLoop catT (wE3.take 8) Scanner.cleared).1.state = .dn := by decide
theorem witness_ShapeMatchesAreAllTheShapes : IsShape (slice wE3 0 12) ∧
    (shapeMatches wE3).map (fun m => (m.start, m.stop)) = [(0, 12)] :=
  ⟨⟨0x30, 0x46, 0x45, 0x30, 0x4E, [0x32, 0x33, 0x31, 0x30], by decide⟩, by decide⟩
/-- Digits 2, 3, 1, 0 are the bytes 0x23, 0x10, a message; 4, 1 is an absent opcode; one digit is odd. -/
theorem witness_EmitDecodesTheDigits : ([2, 3, 1, 0] : List Nibble).map BitVec.toNat =
      [0x23#8, 0x10#8].flatMap (fun b => [b.toNat / 16, b.toNat % 16]) ∧
    messageOf catT [0x23, 0x10] = .ok { op := 0x23, payload := [0x10] } ∧
    ([4, 1] : List Nibble).map BitVec.toNat = [0x41#8].flatMap (fun b => [b.toNat / 16, b.toNat % 16]) ∧
    messageOf catT [0x41] = .error .unknownOpcode ∧ ([7] : List Nibble).length % 2 = 1 := by
  refine ⟨by decide, rfl, by decide, rfl, by decide⟩
theorem witness_ScanInvertsRendering : romCheck st.rom = true ∧
    ∀ f ∈ [fE2, fE3], Frame.carriesMessage st.rom f = true ∧ PutsAscii st (exec (.frmEnc f) st) (frameAscii f) := by
  refine ⟨by decide, fun f hf => ?_⟩
  simp only [List.mem_cons, List.not_mem_nil, or_false] at hf
  rcases hf with rfl | rfl <;> exact ⟨by decide, rfl⟩
theorem witness_ScanInvertsRendering_again : ∃ t, exec (.frmScan wE3) st = .next t ∧ t.frameOut = [fE3] ∧
    PutsAscii st (exec (.frmEnc fE3) st) (frameAscii fE3) := ⟨_, rfl, rfl, rfl⟩
/-- No match straddles ":" and "x", after which the machine is not in IDLE; after E2's frame it is. -/
theorem witness_ScanDistributesOverConcatenation : romCheck st.rom = true ∧
    (∀ m ∈ shapeMatches ([0x3A#8] ++ [0x78#8]), ¬ (m.start < [0x3A#8].length ∧ [0x3A#8].length < m.stop)) ∧
    (scanLoop st.rom [0x3A] Scanner.cleared).1.state ≠ .idle ∧
    (scanLoop st.rom wE2 Scanner.cleared).1.state = .idle := by decide
/-- A kept candidate of 24 bytes: seventeen digits and no ';'. -/
theorem witness_KeepingRuleLosesNoFrame : romCheck st.rom = true ∧
    23 < (hostKeeps (wE3.take 7 ++ List.replicate 17 0x30#8)).length := by decide
theorem witness_MoreThanSixteenDigitsAreDropped : 16 < (List.replicate 17 (4 : Nibble)).length ∧
    (List.replicate 17 (4 : Nibble)).length % 2 = 1 ∧ 16 < (List.replicate 18 (4 : Nibble)).length ∧
    (List.replicate 18 (4 : Nibble)).length % 2 = 0 := by decide
/-- ":S0FE0N1;" is a match of 9 bytes, ":S0FE0N0D;" one of 10 that yields a frame. -/
theorem witness_ScanIsBoundedByItsInput :
    (shapeMatches [0x3A, 0x53, 0x30, 0x46, 0x45, 0x30, 0x4E, 0x31, 0x3B]).map (fun m => m.stop) = [9] ∧
    (shapeMatches [0x3A, 0x53, 0x30, 0x46, 0x45, 0x30, 0x4E, 0x30, 0x44, 0x3B]).map (fun m => (m.stop, emitted (m.emit catT))) =
      [(10, [{ header := hE2, message := some { op := 0x0D, payload := [] }, rtr := false }])] := by decide
theorem witness_FormatRowsRunTheirOperation : romCheck st.rom = true ∧ Present st 0x40 ∧
    [0x00#8, 0x0A#8].length = (0x40#8).toNat / 32 := by
  unfold Present; decide
theorem witness_PseudoOperationRowsFixTheOpcode : romCheck st.rom = true ∧ Present st 0x23 ∧ Present st 0x40 ∧
    romNamed st.rom "ACON" = some 0x90 ∧ (0x90#8).toNat / 32 = 4 := by
  unfold Present; decide
theorem witness_ReportRowsPackAtSevenByteOpcodes : romCheck st.rom = true ∧ (0xE1#8).toNat = 0xE0 + (1#5).toNat ∧
    Present st 0xE1 ∧ (∀ b ∈ [0x43#8], b.toNat < 0x80) := by
  unfold Present; decide
theorem witness_NamedRowsConstructAtTheirEntry : romCheck catErr = true ∧ romNamed catErr "CMDERR" = some 0x6F ∧
    romNamed catErr "ERR" = some 0x63 ∧ [0#8, 10#8, 5#8].length = (0x6F#8).toNat / 32 ∧
    [0#8, 10#8].length ≠ (0x63#8).toNat / 32 ∧ romNamed catT "CMDERR" = none ∧ romNamed catT "ERR" = none ∧
    romNamed [entry 0x23 "X"] "ACON" = none := by decide
theorem witness_DistinctNamesDenoteOneEntry : (catT.map fun e => e.2.name).Nodup ∧ entry 0x90 "ACON" ∈ catT := by decide
/-- ACON is in CAT_T, ACOF is not. -/
theorem witness_RomRowsPresentTheirMessage : (0x90#8, Instr.romACON) ∈ romRows ∧ (0x91#8, Instr.romACOF) ∈ romRows ∧
    romCheck st.rom = true ∧ [0#8, 0#8, 0#8, 0#8].length = (0x90#8).toNat / 32 ∧ Present st 0x90 ∧ ¬ Present st 0x91 := by
  refine ⟨?_, ?_, by unfold Present; decide⟩ <;> simp [romRows, romRows4]
theorem witness_AnErrorChangesNoState : ∃ t, exec (.hdrDec [0x74]) st = .next t ∧ t.err = some (.kind .insufficientData) :=
  ⟨_, rfl, rfl⟩
theorem witness_OnlyTheseErrorsAreReturned : ∃ t, exec (.msgDec []) st = .next t ∧ t.err = some (.kind .emptyInput) :=
  ⟨_, rfl, rfl⟩
/-- Two states that differ in a result, the scanner's position and the index; and two that differ in the result alone. -/
theorem witness_OutcomeDependsOnOperandsAndRomOnly :
    st.rom = { st with scn := { st.scn with pos := 7 }, res := some (.bit true), serIdx := 3 }.rom ∧
    st.rom = { st with res := some (.bit true) }.rom ∧ st.scn = { st with res := some (.bit true) }.scn ∧
    st.serIdx = { st with res := some (.bit true) }.serIdx ∧ st.host = { st with res := some (.bit true) }.host :=
  ⟨rfl, rfl, rfl, rfl, rfl⟩
theorem witness_NoOperationWritesTheRom : ∃ t, exec (.frmScan wE2) st = .next t := ⟨_, rfl⟩
theorem witness_OnlyMessagesAreReturned : ∃ t, exec (.pkU8 0x23 16) st = .next t ∧
    t.res = some (.message { op := 0x23, payload := [0x10] }) := ⟨_, rfl, rfl⟩
theorem witness_OnlyMessagesAreReturned_frames : ∃ t, exec (.frmScan wE2) st = .next t ∧ fE2 ∈ t.frameOut :=
  ⟨_, rfl, List.mem_singleton.mpr rfl⟩
theorem witness_StepKeepsTheInvariant : { st with host := [encode (.frmScan wE2)] }.inv = true ∧
    ∃ t, step { st with host := [encode (.frmScan wE2)] } = .next t := ⟨by decide, _, rfl⟩
theorem witness_StepRunsTheDecodedInstruction : decodesTo [0x0A, 0] = some .catCheck ∧ Instr.catCheck.wellFormed = true ∧
    rejectOf [0x62, 0] = some .noSuchRow ∧ st.host = [] := by decide
theorem witness_DecodeInvertsEncode : (Instr.hdrDec [0x0F, 0xE0]).wellFormed = true ∧
    (Instr.romACON [1, 2, 3, 4]).wellFormed = true := by decide
theorem witness_DecodedInstructionsAreWellFormed : decodesTo [0x0D, 0, 0x0D] = some (.msgHex { op := 0x0D, payload := [] }) := by
  decide

end Tests
end Sys2Proof
end

