-- ==== Sys2Proof/Proofs/Effect.lean ====
section
/-! PROOF. What a row of the table does to the state is one of five effects, and which one is fixed by the operands and the
ROM (00_scope.md R9): the normal form of `exec`, its closure under the model's preconditions, and O51 from it. -/

namespace Sys2Proof
namespace Machine

/-- All that a row of the table can do to the state: refuse, or one of the four operations on the ports (R23, R25, R180,
R214). `exec_romDetermined` ties it to the model. -/
inductive Effect where
  | refuse (r : Refusal)
  | complete (r : Result)
  | raise (k : ErrKind)
  | putAscii (bs : List Byte)
  | scan (buf : List Byte)

/-- The outcome of an effect on a state. -/
def Effect.on : Effect → State → Host.Outcome State Fault Refusal
  | .refuse r, _ => .refused r
  | .complete r, s => .next (s.complete r)
  | .raise k, s => .next (s.raise k)
  | .putAscii bs, s => .next (s.putAscii bs)
  | .scan buf, s => .next (s.scanBuffer buf)

/-- The ROM alone decides the effect of `f`: whatever else the states with one ROM hold, `f` has one effect on all. -/
def RomDetermined (f : State → Host.Outcome State Fault Refusal) : Prop :=
  ∀ rom, ∃ e : Effect, ∀ s : State, s.rom = rom → f s = e.on s

/-! An effect shows the same on states with the same ROM, and overwrites every port. -/

theorem Effect.sameOutcome_on (e : Effect) {s t : State} (hrom : s.rom = t.rom) : SameOutcome (e.on s) (e.on t) := by
  cases e with
  | refuse r => exact rfl
  | complete r => simp [Effect.on, SameOutcome, SamePorts]
  | raise k => simp [Effect.on, SameOutcome, SamePorts]
  | putAscii bs => simp [Effect.on, SameOutcome, SamePorts]
  | scan buf => simp [Effect.on, SameOutcome, SamePorts, hrom]

theorem Effect.on_congr (e : Effect) {s t : State} (hrom : s.rom = t.rom) (hscn : s.scn = t.scn)
    (hser : s.serIdx = t.serIdx) (hhost : s.host = t.host) : e.on s = e.on t := by
  obtain ⟨rom, scn, serIdx, host⟩ := s
  obtain rfl : rom = t.rom := hrom
  obtain rfl : scn = t.scn := hscn
  obtain rfl : serIdx = t.serIdx := hser
  obtain rfl : host = t.host := hhost
  cases e <;> rfl

/-! The operations on the ports, and the model's preconditions over them (R13, R131, R154, R241). -/

variable {f g : State → Host.Outcome State Fault Refusal}

theorem romDetermined_of_effect (e : Rom → Effect) : RomDetermined fun s => (e s.rom).on s :=
  fun rom => ⟨e rom, fun _ hs => hs ▸ rfl⟩

theorem romDetermined_refused (r : Refusal) : RomDetermined fun _ => .refused r :=
  romDetermined_of_effect fun _ => .refuse r

theorem romDetermined_complete (r : Rom → Result) : RomDetermined fun s => .next (s.complete (r s.rom)) :=
  romDetermined_of_effect fun rom => .complete (r rom)

theorem romDetermined_putAscii (bs : List Byte) : RomDetermined fun s => .next (s.putAscii bs) :=
  romDetermined_of_effect fun _ => .putAscii bs

theorem romDetermined_scanBuffer (buf : List Byte) : RomDetermined fun s => .next (s.scanBuffer buf) :=
  romDetermined_of_effect fun _ => .scan buf

theorem romDetermined_respond (r : Rom → Except ErrKind Result) : RomDetermined fun s => respond (r s.rom) s := by
  intro rom
  cases h : r rom with
  | ok v => exact ⟨.complete v, fun s hs => by simp only [hs, h]; rfl⟩
  | error k => exact ⟨.raise k, fun s hs => by simp only [hs, h]; rfl⟩

/-- Every precondition but `withNamed` is a test of the operands and the ROM. -/
theorem RomDetermined.ite (c : Rom → Bool) (hf : RomDetermined f) (hg : RomDetermined g) :
    RomDetermined fun s => if c s.rom then f s else g s := by
  intro rom
  cases h : c rom with
  | true => simpa +contextual [h] using hf rom
  | false => simpa +contextual [h] using hg rom

theorem RomDetermined.withRom (hf : RomDetermined f) : RomDetermined fun s => withRom s (f s) :=
  hf.ite romCheck (romDetermined_refused _)

theorem RomDetermined.withPresent (v : Byte) (hf : RomDetermined f) : RomDetermined fun s => withPresent v s (f s) :=
  hf.ite (romPresent · v) (romDetermined_refused _)

theorem RomDetermined.withMessage (m : Message) (hf : RomDetermined f) : RomDetermined fun s => withMessage m (f s) :=
  hf.ite (fun _ => m.lengthOk) (romDetermined_refused _)

theorem RomDetermined.withFrame (fr : Frame) (hf : RomDetermined f) : RomDetermined fun s => withFrame fr (f s) :=
  hf.ite (fun _ => fr.messageOk) (romDetermined_refused _)

theorem RomDetermined.withName (name : List Byte) (hf : RomDetermined f) : RomDetermined fun s => withName name (f s) :=
  hf.ite (fun _ => Instr.nameOk name) (romDetermined_refused _)

theorem RomDetermined.withNamed (name : String) {k : Byte → State → Host.Outcome State Fault Refusal}
    (hk : ∀ v, RomDetermined (k v)) :
    RomDetermined fun s => withNamed name s fun v => k v s := by
  intro rom
  cases h : romNamed rom name with
  | some v => simpa +contextual [Machine.withNamed, h] using hk v rom
  | none => exact ⟨.refuse (.noSuchEntry name), fun s hs => by simp [Machine.withNamed, hs, h, Effect.on]⟩

/-! The operations the rows share. -/

theorem romDetermined_decodeMessage (bs : List Byte) : RomDetermined (decodeMessage bs) :=
  (romDetermined_respond fun rom => (messageOf rom bs).map .message).withRom

theorem romDetermined_constructMessage (v : Byte) (p : Option (List Byte)) : RomDetermined (constructMessage v p) :=
  ((romDetermined_respond fun _ => (newMessage v p).map .message).withPresent v).withRom

theorem romDetermined_packName (v : Byte) (name : List Byte) : RomDetermined (packName v name) :=
  (romDetermined_constructMessage v _).withName name

theorem romDetermined_presentHeader (bs : List Byte) : RomDetermined (presentHeader bs) := by
  unfold presentHeader
  split
  · exact romDetermined_respond fun _ => (decodeHeader bs).map .header
  · exact romDetermined_refused _

theorem romDetermined_scanFrames (buf : List Byte) : RomDetermined (scanFrames buf) :=
  (romDetermined_scanBuffer buf).withRom

/-- R9: which of the five effects a row of the table has is fixed by its operands and the ROM. The rows not named are the
130 entries of the default catalog, each of which presents a binary message to the decoder (log 3). -/
theorem exec_romDetermined (i : Instr) : RomDetermined (exec i) := by
  cases i with
  -- A result, an error kind or output bytes from the operands alone.
  | priPack | priUnpack | formatPri | hdrReg | hdrCanid | formatCanid | hdrEq | catLen =>
    exact romDetermined_complete fun _ => _
  | hdrEnc ma mi sid => exact romDetermined_respond fun _ => (encodeHeader ma mi sid).map .header
  | hdrDec bs => exact romDetermined_presentHeader bs
  | formatHdr hb lb => exact romDetermined_presentHeader [hb, lb]
  | hdrAscii h => exact romDetermined_putAscii (headerAscii h)
  -- The operand must be a message, or a frame of one (R13).
  | msgHex m => exact (romDetermined_putAscii (Bits.hexBytes m.bytes)).withMessage m
  | msgEq m1 m2 => exact ((romDetermined_complete fun _ => .bit (messageEq m1 m2)).withMessage m2).withMessage m1
  | frmEnc f => exact (romDetermined_putAscii (frameAscii f)).withFrame f
  | frmEq f1 f2 => exact ((romDetermined_complete fun _ => .bit (frameEq f1 f2)).withFrame f2).withFrame f1
  -- The ROM is read.
  | catLookup v => exact (romDetermined_respond fun rom => (lookupDescriptor rom v).map .descriptor).withRom
  | catCheck => exact romDetermined_complete fun rom => .bit (romCheck rom)
  | frmScan buf | formatWire buf => exact romDetermined_scanFrames buf
  | msgDec bs | formatMsg bs => exact romDetermined_decodeMessage bs
  | msgNew | pkEng | pkAlev | pkCsrpt | pkU16 | pkU8 | entrySessionKeepAlive | entryRequestEngineSession
  | entryEngineReport | entryCommandStationReport => exact romDetermined_constructMessage _ _
  | pkName | entryModuleName => exact romDetermined_packName _ _
  | entryAcon | entryCmderr | entryErr =>
    exact (RomDetermined.withNamed _ fun v => romDetermined_constructMessage v _).withRom
  | unused0F | unused16 | unused17 | unused1B | unused1C | unused1D | unused1E | unused1F =>
    exact romDetermined_refused _
  | _ => exact romDetermined_decodeMessage _

/-- Settles O51: both states have the ROM that fixes the row's effect, and an effect reads nothing of the ports. -/
theorem outcomeDependsOnOperandsAndRomOnly : Obligations.OutcomeDependsOnOperandsAndRomOnly := by
  intro i s t hrom
  obtain ⟨e, he⟩ := exec_romDetermined i t.rom
  rw [he s hrom, he t rfl]
  exact ⟨e.sameOutcome_on hrom, e.on_congr hrom⟩

end Machine
end Sys2Proof
end

