-- ==== Sys2Proof/Proofs/Codes.lean ====
section
/-! PROOF. The operation codes (30_encoding.md R70): the code of a transaction is read off its first byte, whatever operands
follow it, and O47 from it. -/

namespace Sys2Proof
namespace Machine

/-- A row that the encoder writes as an operation has that operation's code: the operands stand after it and do not matter. -/
theorem hasCode_of_encode {i : Instr} {c : Byte} {operands : List Byte} (h : encode i = Writer.operation c operands) :
    HasCode i c := by
  have hhead : (Writer.operation c operands).head? = some c := rfl
  rw [HasCode, h, hhead]

/-- The eight codes R70 leaves out are refused in every state, each by its own number. -/
theorem exec_unused (s : State) :
    exec .unused0F s = .refused (.noOperation 0x0F) ∧ exec .unused16 s = .refused (.noOperation 0x16) ∧
    exec .unused17 s = .refused (.noOperation 0x17) ∧ exec .unused1B s = .refused (.noOperation 0x1B) ∧
    exec .unused1C s = .refused (.noOperation 0x1C) ∧ exec .unused1D s = .refused (.noOperation 0x1D) ∧
    exec .unused1E s = .refused (.noOperation 0x1E) ∧ exec .unused1F s = .refused (.noOperation 0x1F) :=
  ⟨rfl, rfl, rfl, rfl, rfl, rfl, rfl, rfl⟩

/-- Settles O47: the encoder's row of each code, in the order of R70's table, then the refusals. -/
theorem operationCodesOfTheTable : Obligations.OperationCodesOfTheTable :=
  ⟨-- PRI and HDR, 0x00 to 0x07
   fun _ _ => hasCode_of_encode rfl, fun _ => hasCode_of_encode rfl, fun _ _ _ => hasCode_of_encode rfl,
   fun _ => hasCode_of_encode rfl, fun _ => hasCode_of_encode rfl, fun _ => hasCode_of_encode rfl,
   fun _ => hasCode_of_encode rfl, fun _ _ => hasCode_of_encode rfl,
   -- CAT and MSG, 0x08 to 0x0E
   fun _ => hasCode_of_encode rfl, fun _ => hasCode_of_encode rfl, hasCode_of_encode rfl,
   fun _ _ => hasCode_of_encode rfl, fun _ => hasCode_of_encode rfl, fun _ => hasCode_of_encode rfl,
   fun _ _ => hasCode_of_encode rfl,
   -- PK, 0x10 to 0x15
   fun _ _ _ _ _ _ _ _ => hasCode_of_encode rfl, fun _ _ _ => hasCode_of_encode rfl,
   fun _ _ _ _ _ _ _ => hasCode_of_encode rfl, fun _ _ => hasCode_of_encode rfl, fun _ _ => hasCode_of_encode rfl,
   fun _ _ => hasCode_of_encode rfl,
   -- FRM, 0x18 to 0x1A
   fun _ => hasCode_of_encode rfl, fun _ => hasCode_of_encode rfl, fun _ _ => hasCode_of_encode rfl,
   -- the codes that select no operation
   hasCode_of_encode rfl, hasCode_of_encode rfl, hasCode_of_encode rfl, hasCode_of_encode rfl,
   hasCode_of_encode rfl, hasCode_of_encode rfl, hasCode_of_encode rfl, hasCode_of_encode rfl,
   exec_unused⟩

end Machine
end Sys2Proof
end

/-! PROOF. Unit PRI (40_priority_packer.md): what the pack and unpack formulas are as numbers, that an operation which completes
answers, and O1 and O2 from them. -/

namespace Sys2Proof
namespace Bits

/-- R81's packed byte as a number: the two fields do not overlap, so their `|||` is a sum. -/
theorem packPri_toNat (major minor : BitVec 2) :
    (packPri major minor).toNat = 64 * major.toNat + 16 * minor.toNat := by
  have hmajor : (major.setWidth 8 <<< 6).toNat = major.toNat <<< 6 := by
    rw [BitVec.toNat_shiftLeft, BitVec.toNat_setWidth]; omega
  have hminor : (minor.setWidth 8 <<< 4).toNat = 16 * minor.toNat := by
    rw [BitVec.toNat_shiftLeft, BitVec.toNat_setWidth]; omega
  have hbelow : 16 * minor.toNat < 2 ^ 6 := by omega
  rw [packPri, BitVec.toNat_or, hmajor, hminor, ← Nat.shiftLeft_add_eq_or_of_lt hbelow, Nat.shiftLeft_eq]
  omega

/-- R82's mask keeps the two bits from bit `k` up: the quotient by `2 ^ k`, modulo 4. -/
theorem shiftMask_toNat (b : Byte) (k : Nat) : (((b >>> k) &&& 0x03#8).setWidth 2).toNat = b.toNat / 2 ^ k % 4 := by
  have hmask (n : Nat) : n &&& 3 = n % 4 := Nat.and_two_pow_sub_one_eq_mod n 2
  simp [hmask, Nat.shiftRight_eq_div_pow]

/-- The major priority of a byte, its top two bits, as a number (R82). -/
theorem majorOf_toNat (b : Byte) : (majorOf b).toNat = b.toNat / 64 := by
  have hfield : (majorOf b).toNat = b.toNat / 2 ^ 6 % 4 := shiftMask_toNat b 6
  omega

/-- The minor priority of a byte, bits 5 and 4, as a number (R82). -/
theorem minorOf_toNat (b : Byte) : (minorOf b).toNat = b.toNat / 16 % 4 :=
  shiftMask_toNat b 4

end Bits

namespace Machine

/-- An operation that completes with a result answers it: the ports it sets are R23's, and the rest of the state stands. -/
theorem answers_complete (s : State) (r : Result) : Answers s (.next (s.complete r)) r := rfl

/-- Settles O1: the packed byte is the rule's number, and PRI.PACK completes with it. -/
theorem priPackPutsFieldsInPlace : Obligations.PriPackPutsFieldsInPlace := fun major minor s =>
  ⟨hasCode_of_encode rfl, Bits.packPri major minor, Bits.packPri_toNat major minor, answers_complete s _⟩

/-- Settles O2: the two fields are the rule's numbers, and PRI.UNPACK completes with them. -/
theorem priUnpackReadsFields : Obligations.PriUnpackReadsFields := fun b s =>
  ⟨hasCode_of_encode rfl, Bits.majorOf b, Bits.minorOf b, Bits.majorOf_toNat b, Bits.minorOf_toNat b, answers_complete s _⟩

end Machine
end Sys2Proof

/-! PROOF. Unit HDR (41_header_mux.md): the packed bytes and the unpacked fields of a header as numbers, the digits of bytes as
upper-case hexadecimal, what each of the unit's operations leaves on the ports, and O4, O5, O6 and O8 from them. -/

namespace Sys2Proof
namespace Bits

/-! The packed bytes of a header (R53, R91). -/

/-- The high byte is the priority byte with the upper four bits of the source id in its empty low nibble. -/
theorem highByte_eq_packPri_or (h : Header) : highByte h = packPri h.major h.minor ||| (h.sid.setWidth 8 >>> 3) := rfl

/-- R91's high byte as a number: the source id's bits stand below the priority's, so the `|||` is a sum. -/
theorem highByte_toNat (h : Header) :
    (highByte h).toNat = 64 * h.major.toNat + 16 * h.minor.toNat + h.sid.toNat / 8 := by
  have hpri : (packPri h.major h.minor).toNat = (4 * h.major.toNat + h.minor.toNat) <<< 4 := by
    rw [packPri_toNat, Nat.shiftLeft_eq]; omega
  have hsid : (h.sid.setWidth 8 >>> 3).toNat = h.sid.toNat / 8 := by
    rw [BitVec.toNat_ushiftRight, BitVec.toNat_setWidth, Nat.shiftRight_eq_div_pow]; omega
  have hbelow : h.sid.toNat / 8 < 2 ^ 4 := by omega
  rw [highByte_eq_packPri_or, BitVec.toNat_or, hpri, hsid, ← Nat.shiftLeft_add_eq_or_of_lt hbelow, Nat.shiftLeft_eq]
  omega

/-- R91's low byte as a number: the lower three bits of the source id, in the byte's top three. -/
theorem lowByte_toNat (h : Header) : (lowByte h).toNat = 32 * (h.sid.toNat % 8) := by
  have hmask (n : Nat) : n &&& 7 = n % 8 := Nat.and_two_pow_sub_one_eq_mod n 3
  have hfield : (h.sid.setWidth 8 &&& 0x07#8).toNat = h.sid.toNat % 8 := by
    rw [BitVec.toNat_and, BitVec.toNat_setWidth, BitVec.toNat_ofNat, hmask]; omega
  rw [lowByte, BitVec.toNat_shiftLeft, hfield, Nat.shiftLeft_eq]
  omega

/-! The fields of two bytes (R93). The major and minor priorities are `majorOf_toNat` and `minorOf_toNat`. -/

/-- R93's source id as a number: four bits of the high byte above three of the low byte. -/
theorem headerOf_sid_toNat (hb lb : Byte) :
    (headerOf hb lb).sid.toNat = 8 * (hb.toNat % 16) + lb.toNat / 32 := by
  have hmask4 (n : Nat) : n &&& 15 = n % 16 := Nat.and_two_pow_sub_one_eq_mod n 4
  have hmask3 (n : Nat) : n &&& 7 = n % 8 := Nat.and_two_pow_sub_one_eq_mod n 3
  have hupper : ((hb &&& 0x0F#8) <<< 3).toNat = (hb.toNat % 16) <<< 3 := by
    rw [BitVec.toNat_shiftLeft, BitVec.toNat_and, BitVec.toNat_ofNat, hmask4, Nat.shiftLeft_eq]; omega
  have hlower : ((lb >>> 5) &&& 0x07#8).toNat = lb.toNat / 32 := by
    rw [BitVec.toNat_and, BitVec.toNat_ushiftRight, BitVec.toNat_ofNat, hmask3, Nat.shiftRight_eq_div_pow]; omega
  have hbelow : lb.toNat / 32 < 2 ^ 3 := by omega
  rw [headerOf, BitVec.toNat_setWidth, BitVec.toNat_or, hupper, hlower, ← Nat.shiftLeft_add_eq_or_of_lt hbelow,
    Nat.shiftLeft_eq]
  omega

/-! The nibbles of a byte as numbers (R37). -/

theorem hiNibble_toNat (b : Byte) : (hiNibble b).toNat = b.toNat / 16 := by
  rw [hiNibble, BitVec.toNat_setWidth, BitVec.toNat_ushiftRight, Nat.shiftRight_eq_div_pow]
  omega

theorem loNibble_toNat (b : Byte) : (loNibble b).toNat = b.toNat % 16 :=
  BitVec.toNat_setWidth 4 b

end Bits

namespace Machine

/-! Digits: `hexBytes` writes bytes in hexadecimal (R37, R62). -/

/-- A nibble is written as its upper-case digit, by R62's table. -/
theorem isUpperHex_hexchr (n : Nibble) : IsUpperHex (Bits.hexchr n) n.toNat := by
  unfold IsUpperHex
  revert n; decide

theorem isHexOf_nil : IsHexOf [] [] := ⟨rfl, fun _ _ hb => nomatch hb⟩

/-- One byte more in front is its two digits more in front. -/
theorem isHexOf_hex2_append (b : Byte) {text bs : List Byte} (h : IsHexOf text bs) :
    IsHexOf (Bits.hex2 b ++ text) (b :: bs) := by
  obtain ⟨hlen, hdigits⟩ := h
  refine ⟨by simp [Bits.hex2, hlen]; omega, fun i x hx => ?_⟩
  cases i with
  | zero =>
    obtain rfl : b = x := Option.some.inj hx
    refine ⟨Bits.hexchr (Bits.hiNibble b), Bits.hexchr (Bits.loNibble b), rfl, rfl, ?_, ?_⟩
    · rw [← Bits.hiNibble_toNat]; exact isUpperHex_hexchr _
    · rw [← Bits.loNibble_toNat]; exact isUpperHex_hexchr _
  | succ i => exact hdigits i x hx

theorem isHexOf_hexBytes (bs : List Byte) : IsHexOf (Bits.hexBytes bs) bs := by
  induction bs with
  | nil => exact isHexOf_nil
  | cons b bs ih => exact isHexOf_hex2_append b ih

/-- A header's text is the digits of its packed bytes, the high byte first (R98). -/
theorem headerAscii_eq_hexBytes (h : Header) : headerAscii h = Bits.hexBytes [Bits.highByte h, Bits.lowByte h] := rfl

/-! What an operation that raises, or puts out bytes, leaves on the ports. -/

/-- An operation that raises an error kind shows R214's ports, and the rest of the state stands. -/
theorem raises_raise (s : State) (k : ErrKind) : Raises s (.next (s.raise k)) k := rfl

/-- An operation that puts out bytes shows them on `res` and streamed, its index back at 0 (R25). -/
theorem putsAscii_putAscii (s : State) (bs : List Byte) : PutsAscii s (.next (s.putAscii bs)) bs := by
  rw [putAscii_eq]; rfl

/-! The unit's functions, one equation for each case of their rules. -/

/-- A source id that fits the field is encoded (R91). -/
theorem encodeHeader_of_le {sidIn : BitVec Config.sidInW} (hsid : sidIn.toNat ≤ 127) (major minor : BitVec 2) :
    encodeHeader major minor sidIn = .ok { major := major, minor := minor, sid := sidIn.setWidth 7 } :=
  if_neg (Nat.not_lt.mpr hsid)

/-- A larger one is an error; the whole operand is compared (R64, R91). -/
theorem encodeHeader_of_gt {sidIn : BitVec Config.sidInW} (hsid : 127 < sidIn.toNat) (major minor : BitVec 2) :
    encodeHeader major minor sidIn = .error .invalidIdentifier :=
  if_pos hsid

theorem decodeHeader_of_short {bs : List Byte} (hshort : bs.length < 2) :
    decodeHeader bs = .error .insufficientData := by
  match bs, hshort with
  | [], _ => rfl
  | [_], _ => rfl

theorem presentHeader_pair (hb lb : Byte) (s : State) :
    presentHeader [hb, lb] s = .next (s.complete (.header (Bits.headerOf hb lb))) := rfl

theorem presentHeader_of_short {bs : List Byte} (hshort : bs.length < 2) (s : State) :
    presentHeader bs s = .next (s.raise .insufficientData) := by
  rw [presentHeader, if_pos hshort.le, decodeHeader_of_short hshort]; rfl

theorem presentHeader_of_long {bs : List Byte} (hlong : 2 < bs.length) (s : State) :
    presentHeader bs s = .refused .operandTooLong :=
  if_neg (Nat.not_le.mpr hlong)

/-! The rows of the unit, as `exec` runs them. -/

theorem exec_hdrEnc (major minor : BitVec 2) (sidIn : BitVec Config.sidInW) (s : State) :
    exec (.hdrEnc major minor sidIn) s = respond ((encodeHeader major minor sidIn).map .header) s := rfl

theorem exec_hdrDec (bs : List Byte) (s : State) : exec (.hdrDec bs) s = presentHeader bs s := rfl

theorem exec_hdrReg (h : Header) (s : State) :
    exec (.hdrReg h) s = .next (s.complete (.packed (Bits.highByte h) (Bits.lowByte h))) := rfl

theorem exec_hdrAscii (h : Header) (s : State) : exec (.hdrAscii h) s = .next (s.putAscii (headerAscii h)) := rfl

/-- HDR.ENC completes with the header of a source id that fits. -/
theorem exec_hdrEnc_of_le {sidIn : BitVec Config.sidInW} (hsid : sidIn.toNat ≤ 127) (major minor : BitVec 2) (s : State) :
    exec (.hdrEnc major minor sidIn) s =
      .next (s.complete (.header { major := major, minor := minor, sid := sidIn.setWidth 7 })) := by
  rw [exec_hdrEnc, encodeHeader_of_le hsid]; rfl

/-- HDR.ENC raises the error kind on a source id that does not. -/
theorem exec_hdrEnc_of_gt {sidIn : BitVec Config.sidInW} (hsid : 127 < sidIn.toNat) (major minor : BitVec 2) (s : State) :
    exec (.hdrEnc major minor sidIn) s = .next (s.raise .invalidIdentifier) := by
  rw [exec_hdrEnc, encodeHeader_of_gt hsid]; rfl

/-- Settles O4: below the bound no bit of the source id is cut off, so the header's three numbers are the operands and its
packed bytes are R91's; above it the operation raises. -/
theorem hdrEncBuildsOrRejects : Obligations.HdrEncBuildsOrRejects := by
  intro major minor sidIn s
  refine ⟨hasCode_of_encode rfl, fun hle => ?_, fun hgt => ?_⟩
  · have hsid : (sidIn.setWidth 7).toNat = sidIn.toNat := by rw [BitVec.toNat_setWidth]; omega
    refine ⟨{ major := major, minor := minor, sid := sidIn.setWidth 7 }, rfl, rfl, hsid, ?_, ?_, ?_⟩
    · rw [Bits.highByte_toNat, hsid]
    · rw [Bits.lowByte_toNat, hsid]
    · rw [exec_hdrEnc_of_le hle]; exact answers_complete s _
  · rw [exec_hdrEnc_of_gt hgt]; exact raises_raise s _

/-- Settles O5: the three lengths of R93, the fields of two bytes by their numbers. -/
theorem hdrDecDecodesTwoBytes : Obligations.HdrDecDecodesTwoBytes := by
  refine ⟨fun _ => hasCode_of_encode rfl, fun hb lb s => ?_, fun bs s hshort => ?_, fun bs s hlong => ?_⟩
  · refine ⟨Bits.headerOf hb lb, Bits.majorOf_toNat hb, Bits.minorOf_toNat hb, Bits.headerOf_sid_toNat hb lb, ?_⟩
    rw [exec_hdrDec, presentHeader_pair]; exact answers_complete s _
  · rw [exec_hdrDec, presentHeader_of_short hshort]; exact raises_raise s _
  · rw [exec_hdrDec, presentHeader_of_long hlong]

/-- Settles O6: HDR.REG completes with the packed bytes, which are the rule's numbers. -/
theorem hdrRegGivesPackedBytes : Obligations.HdrRegGivesPackedBytes := by
  intro h s
  refine ⟨hasCode_of_encode rfl, Bits.highByte h, Bits.lowByte h, Bits.highByte_toNat h, Bits.lowByte_toNat h, ?_⟩
  rw [exec_hdrReg]; exact answers_complete s _

/-- Settles O8: HDR.ASCII puts out the header's text, the digits of its packed bytes. -/
theorem hdrAsciiPutsFourDigits : Obligations.HdrAsciiPutsFourDigits := by
  intro h s
  refine ⟨hasCode_of_encode rfl, headerAscii h, ?_, ?_, ?_⟩
  · rw [headerAscii_eq_hexBytes, Bits.hexBytes_length]; rfl
  · rw [headerAscii_eq_hexBytes]; exact isHexOf_hexBytes _
  · rw [exec_hdrAscii]; exact putsAscii_putAscii s _

end Machine
end Sys2Proof

/-! PROOF. Unit CAT (42_opcode_rom.md): the stored byte count as a number, the canonical list and its reads as one relation,
CAT.CHECK's test as a statement about every read, and O12, O13 and O14 from them. -/

namespace Sys2Proof
namespace Bits

/-- R111's top three bits as a number. -/
theorem byteCount_toNat (v : Byte) : (byteCount v).toNat = v.toNat / 32 := payloadLen_eq v

/-- A stored byte count is the one of address `v` exactly when the numbers agree: three bits lose nothing. -/
theorem eq_byteCount_iff_toNat (n : BitVec 3) (v : Byte) : n = byteCount v ↔ n.toNat = v.toNat / 32 := by
  rw [← BitVec.toNat_inj, byteCount_toNat]

end Bits

namespace Machine

/-! The ROM as the unit sees it. -/

/-- In the canonical form the entries of the list are what the addresses read as. -/
theorem mem_rom_iff_romRead {rom : Rom} (hw : romWf rom = true) (v : Byte) (d : Descriptor) :
    (v, d) ∈ rom ↔ romRead rom v = some d :=
  ⟨romRead_of_mem hw, romRead_mem⟩

/-- CAT.CHECK's test, entry by entry of the list, canonical or not. -/
theorem romCheck_iff_forall_mem (rom : Rom) :
    romCheck rom = true ↔ ∀ v d, (v, d) ∈ rom → d.byteCount.toNat = v.toNat / 32 := by
  simp only [romCheck, List.all_eq_true, beq_iff_eq, Prod.forall, Bits.eq_byteCount_iff_toNat]

/-- CAT.CHECK's test, address by address (R119). The canonical form is needed: a later entry at an address that an earlier one
holds is tested and never read. -/
theorem romCheck_iff_forall_romRead {rom : Rom} (hw : romWf rom = true) :
    romCheck rom = true ↔ ∀ v d, romRead rom v = some d → d.byteCount.toNat = v.toNat / 32 := by
  simp only [romCheck_iff_forall_mem, mem_rom_iff_romRead hw]

theorem lookupDescriptor_of_present {rom : Rom} {v : Byte} {d : Descriptor} (h : romRead rom v = some d) :
    lookupDescriptor rom v = .ok d := by
  rw [lookupDescriptor, h]

theorem lookupDescriptor_of_absent {rom : Rom} {v : Byte} (h : romRead rom v = none) :
    lookupDescriptor rom v = .error .unknownOpcode := by
  rw [lookupDescriptor, h]

/-! The rows of the unit, as `exec` runs them. -/

theorem exec_catLen (v : Byte) (s : State) : exec (.catLen v) s = .next (s.complete (.count (Bits.byteCount v))) := rfl

theorem exec_catLookup (v : Byte) (s : State) :
    exec (.catLookup v) s = withRom s (respond ((lookupDescriptor s.rom v).map .descriptor) s) := rfl

theorem exec_catCheck (s : State) : exec .catCheck s = .next (s.complete (.bit (romCheck s.rom))) := rfl

/-- Over a valid image CAT.LOOKUP completes with the entry at a present address. -/
theorem exec_catLookup_of_present {v : Byte} {d : Descriptor} {s : State} (hc : romCheck s.rom = true)
    (h : romRead s.rom v = some d) : exec (.catLookup v) s = .next (s.complete (.descriptor d)) := by
  rw [exec_catLookup, withRom_of_check hc, lookupDescriptor_of_present h]; rfl

/-- Over a valid image CAT.LOOKUP raises the error kind at an empty address. -/
theorem exec_catLookup_of_absent {v : Byte} {s : State} (hc : romCheck s.rom = true)
    (h : romRead s.rom v = none) : exec (.catLookup v) s = .next (s.raise .unknownOpcode) := by
  rw [exec_catLookup, withRom_of_check hc, lookupDescriptor_of_absent h]; rfl

/-- Settles O14: CAT.CHECK completes with its test, and over a canonical list that is a test of every read. -/
theorem catCheckTestsEveryEntry : Obligations.CatCheckTestsEveryEntry := by
  intro s
  refine ⟨hasCode_of_encode rfl, romCheck s.rom, ?_, romCheck_iff_forall_romRead⟩
  rw [exec_catCheck]; exact answers_complete s _

/-- Settles O12: CAT.LEN completes with the top three bits; the state's ROM does not occur in its equation. -/
theorem catLenIsTopThreeBits : Obligations.CatLenIsTopThreeBits := by
  intro v s
  refine ⟨hasCode_of_encode rfl, Bits.byteCount v, Bits.byteCount_toNat v, ?_⟩
  rw [exec_catLen]; exact answers_complete s _

/-- Settles O13: the two things an address of a valid image can read as; the byte count is the image's own validity. -/
theorem catLookupReadsTheRom : Obligations.CatLookupReadsTheRom := by
  intro v s hc
  refine ⟨hasCode_of_encode rfl, fun d hd => ⟨?_, ?_⟩, fun habs => ?_⟩
  · rw [romRead_byteCount hc hd, Bits.byteCount_toNat]
  · rw [exec_catLookup_of_present hc hd]; exact answers_complete s _
  · rw [exec_catLookup_of_absent hc habs]; exact raises_raise s _

end Machine
end Sys2Proof

/-! PROOF. Unit MSG (43_message_codec.md): a message's length as a number, the constructor and the decoder case by case of their
rules, the decoder at a present opcode as the constructor of the rest, and O16, O18 and O20 from them. -/

namespace Sys2Proof

/-- R130's length invariant in numbers. -/
theorem Message.lengthOk_iff (m : Message) : m.lengthOk = true ↔ m.payload.length = m.op.toNat / 32 := by
  rw [Message.lengthOk, beq_iff_eq, Bits.payloadLen_eq]

namespace Machine

/-! The unit's functions, one equation for each case of their rules. -/

theorem newMessage_of_length_eq {v : Byte} {p : List Byte} (hlen : p.length = v.toNat / 32) :
    newMessage v (some p) = .ok { op := v, payload := p } :=
  if_pos (hlen.trans (Bits.payloadLen_eq v).symm)

theorem newMessage_of_length_ne {v : Byte} {p : List Byte} (hlen : p.length ≠ v.toNat / 32) :
    newMessage v (some p) = .error .payloadLengthMismatch :=
  if_neg fun h => hlen (h.trans (Bits.payloadLen_eq v))

/-- An omitted payload is zeros of the opcode's length (R132). -/
theorem newMessage_omitted (v : Byte) :
    newMessage v none = .ok { op := v, payload := List.replicate (v.toNat / 32) 0x00#8 } := by
  rw [newMessage, Bits.payloadLen_eq]; rfl

/-- At a present opcode the decoder's length test is the constructor's (R131, R133). -/
theorem messageOf_cons_of_present {rom : Rom} {v : Byte} (hp : romPresent rom v = true) (p : List Byte) :
    messageOf rom (v :: p) = newMessage v (some p) :=
  if_pos hp

/-- An absent opcode is found before the length is looked at (R216). -/
theorem messageOf_cons_of_absent {rom : Rom} {v : Byte} (hp : ¬ romPresent rom v = true) (p : List Byte) :
    messageOf rom (v :: p) = .error .unknownOpcode :=
  if_neg hp

/-! Constructing and decoding over a valid image, as every row that does so runs them. -/

section ValidImage

variable {s : State} {v : Byte} {p : List Byte} (hc : romCheck s.rom = true)
include hc

theorem constructMessage_of_present (hp : Present s v) (payload : Option (List Byte)) :
    constructMessage v payload s = respond ((newMessage v payload).map .message) s := by
  rw [constructMessage, withRom_of_check hc, withPresent_of_present hp]

theorem constructMessage_of_length_eq (hp : Present s v) (hlen : p.length = v.toNat / 32) :
    constructMessage v (some p) s = .next (s.complete (.message { op := v, payload := p })) := by
  rw [constructMessage_of_present hc hp, newMessage_of_length_eq hlen]; rfl

theorem constructMessage_of_length_ne (hp : Present s v) (hlen : p.length ≠ v.toNat / 32) :
    constructMessage v (some p) s = .next (s.raise .payloadLengthMismatch) := by
  rw [constructMessage_of_present hc hp, newMessage_of_length_ne hlen]; rfl

theorem constructMessage_omitted (hp : Present s v) :
    constructMessage v none s =
      .next (s.complete (.message { op := v, payload := List.replicate (v.toNat / 32) 0x00#8 })) := by
  rw [constructMessage_of_present hc hp, newMessage_omitted]; rfl

theorem decodeMessage_nil : decodeMessage [] s = .next (s.raise .emptyInput) := by
  rw [decodeMessage, withRom_of_check hc]; rfl

theorem decodeMessage_cons_of_absent (hp : ¬ Present s v) :
    decodeMessage (v :: p) s = .next (s.raise .unknownOpcode) := by
  rw [decodeMessage, withRom_of_check hc, messageOf_cons_of_absent hp]; rfl

/-- Decoding at a present opcode is constructing a message of the remaining bytes. -/
theorem decodeMessage_cons_of_present (hp : Present s v) :
    decodeMessage (v :: p) s = constructMessage v (some p) s := by
  rw [decodeMessage, withRom_of_check hc, messageOf_cons_of_present hp, constructMessage_of_present hc hp]

end ValidImage

/-! The rows of the unit, as `exec` runs them. -/

theorem exec_msgNew (v : Byte) (p : Option (List Byte)) (s : State) :
    exec (.msgNew v p) s = constructMessage v p s := rfl

theorem exec_msgDec (bs : List Byte) (s : State) : exec (.msgDec bs) s = decodeMessage bs s := rfl

/-- MSG.HEX puts out the digits of a message's binary form; the state's ROM does not occur. -/
theorem exec_msgHex_of_lengthOk {m : Message} (hm : m.lengthOk = true) (s : State) :
    exec (.msgHex m) s = .next (s.putAscii (Bits.hexBytes m.bytes)) :=
  withMessage_of_ok hm

/-- Settles O20: the text is the digits of the binary form, whose length is the length invariant's. -/
theorem msgHexPutsTwoDigitsPerByte : Obligations.MsgHexPutsTwoDigitsPerByte := by
  intro m s hm
  have hbytes : m.bytes.length = 1 + m.op.toNat / 32 := by
    rw [Message.bytes, List.length_cons, (Message.lengthOk_iff m).mp hm, Nat.add_comm]
  refine ⟨hasCode_of_encode rfl, Bits.hexBytes m.bytes, isHexOf_hexBytes _, ?_, ?_⟩
  · rw [Bits.hexBytes_length, hbytes]
  · rw [exec_msgHex_of_lengthOk hm]; exact putsAscii_putAscii s _

/-- Settles O16: the three things the operand can be, a payload of the opcode's length, of another, or none. -/
theorem msgNewChecksTheLength : Obligations.MsgNewChecksTheLength := by
  intro v s hc hp
  refine ⟨fun _ => hasCode_of_encode rfl, fun p hlen => ?_, fun p hlen => ?_, ?_⟩
  · rw [exec_msgNew, constructMessage_of_length_eq hc hp hlen]; exact answers_complete s _
  · rw [exec_msgNew, constructMessage_of_length_ne hc hp hlen]; exact raises_raise s _
  · rw [exec_msgNew, constructMessage_omitted hc hp]; exact answers_complete s _

/-- Settles O18: no bytes and an absent opcode raise by the decoder's own tests; at a present opcode decoding is constructing,
so its two cases are the constructor's. -/
theorem msgDecTestsInOrder : Obligations.MsgDecTestsInOrder := by
  intro s hc
  refine ⟨fun _ => hasCode_of_encode rfl, ?_, fun v p => ⟨fun habs => ?_, fun hp hlen => ?_, fun hp hlen => ?_⟩⟩
  · rw [exec_msgDec, decodeMessage_nil hc]; exact raises_raise s _
  · rw [exec_msgDec, decodeMessage_cons_of_absent hc habs]; exact raises_raise s _
  · rw [exec_msgDec, decodeMessage_cons_of_present hc hp, constructMessage_of_length_ne hc hp hlen]; exact raises_raise s _
  · rw [exec_msgDec, decodeMessage_cons_of_present hc hp, constructMessage_of_length_eq hc hp hlen]
    exact answers_complete s _

end Machine
end Sys2Proof

/-! PROOF. Unit PK (44_payload_packers.md): the bytes of a layout as numbers and its length, a packer as the constructor at its
layout (R150), and O23 to O26 from them. -/

namespace Sys2Proof
namespace Bits

/-- R35's two bytes of a 16-bit field, the quotient and the remainder by 256. -/
theorem be16_eq_pair (n : BitVec 16) :
    ∃ hi lo : Byte, hi.toNat = n.toNat / 256 ∧ lo.toNat = n.toNat % 256 ∧ be16 n = [hi, lo] := by
  refine ⟨(n >>> 8).setWidth 8, n.setWidth 8, ?_, BitVec.toNat_setWidth 8 n, rfl⟩
  rw [BitVec.toNat_setWidth, BitVec.toNat_ushiftRight, Nat.shiftRight_eq_div_pow]
  omega

/-- R151's combined byte as a number: the masked speed stays below the direction's bit, so the `|||` is a sum. -/
theorem speedDir_toNat (dir : BitVec 1) (speed : Byte) :
    (speedDir dir speed).toNat = 128 * dir.toNat + speed.toNat % 128 := by
  have hmask (n : Nat) : n &&& 127 = n % 128 := Nat.and_two_pow_sub_one_eq_mod n 7
  have hdir : (dir.setWidth 8 <<< 7).toNat = dir.toNat <<< 7 := by
    rw [BitVec.toNat_shiftLeft, BitVec.toNat_setWidth, Nat.shiftLeft_eq]; omega
  have hspeed : (speed &&& 0x7F#8).toNat = speed.toNat % 128 := by
    rw [BitVec.toNat_and, BitVec.toNat_ofNat, hmask]
  have hbelow : speed.toNat % 128 < 2 ^ 7 := by omega
  rw [speedDir, BitVec.toNat_or, hdir, hspeed, ← Nat.shiftLeft_add_eq_or_of_lt hbelow, Nat.shiftLeft_eq]
  omega

end Bits

/-- A name is ASCII when every byte is below 0x80 (R154). -/
theorem Instr.nameOk_iff (name : List Byte) : Instr.nameOk name = true ↔ ∀ b ∈ name, b.toNat < 0x80 := by
  simp only [Instr.nameOk, List.all_eq_true, decide_eq_true_eq]

namespace Machine

/-! The layouts (R59): their bytes, and how many. -/

@[simp] theorem enginePayload_length (session : Byte) (addr : BitVec 16) (speed : Byte) (dir : BitVec 1)
    (f1 f2 f3 : Option Byte) : (enginePayload session addr speed dir f1 f2 f3).length = 7 := rfl

@[simp] theorem eventPayload_length (node event : BitVec 16) : (eventPayload node event).length = 4 := rfl

@[simp] theorem stationPayload_length (node : BitVec 16) (cs flags majorRev minorRev : Byte) (build : Option Byte) :
    (stationPayload node cs flags majorRev minorRev build).length = 7 := rfl

theorem namePayload_of_long {name : List Byte} (h : 7 ≤ name.length) : namePayload name = name.take 7 :=
  if_pos h

theorem namePayload_of_short {name : List Byte} (h : name.length < 7) :
    namePayload name = List.replicate (7 - name.length) Config.namePad ++ name :=
  if_neg (Nat.not_le.mpr h)

/-- Truncated or padded, a name takes exactly seven bytes (R154). -/
@[simp] theorem namePayload_length (name : List Byte) : (namePayload name).length = 7 := by
  rcases Nat.lt_or_ge name.length 7 with hshort | hlong
  · rw [namePayload_of_short hshort, List.length_append, List.length_replicate]; omega
  · rw [namePayload_of_long hlong, List.length_take]; omega

/-! The rows of the unit, as `exec` runs them: each constructs a message of its layout (R150). -/

theorem exec_pkEng (v session : Byte) (addr : BitVec 16) (speed : Byte) (dir : BitVec 1) (f1 f2 f3 : Option Byte)
    (s : State) : exec (.pkEng v session addr speed dir f1 f2 f3) s =
      constructMessage v (some (enginePayload session addr speed dir f1 f2 f3)) s := rfl

theorem exec_pkAlev (v : Byte) (node event : BitVec 16) (s : State) :
    exec (.pkAlev v node event) s = constructMessage v (some (eventPayload node event)) s := rfl

theorem exec_pkCsrpt (v : Byte) (node : BitVec 16) (cs flags majorRev minorRev : Byte) (build : Option Byte) (s : State) :
    exec (.pkCsrpt v node cs flags majorRev minorRev build) s =
      constructMessage v (some (stationPayload node cs flags majorRev minorRev build)) s := rfl

theorem exec_pkName_of_ascii {name : List Byte} (h : ∀ b ∈ name, b.toNat < 0x80) (v : Byte) (s : State) :
    exec (.pkName v name) s = constructMessage v (some (namePayload name)) s :=
  withName_of_ok ((Instr.nameOk_iff name).mpr h)

/-- The name is looked at before the ROM, so any state refuses one that is not ASCII. -/
theorem exec_pkName_of_not_ascii {name : List Byte} (h : ∃ b ∈ name, 0x80 ≤ b.toNat) (v : Byte) (s : State) :
    exec (.pkName v name) s = .refused .nameNotAscii := by
  obtain ⟨b, hb, hlarge⟩ := h
  exact if_neg fun hok => Nat.not_lt.mpr hlarge ((Instr.nameOk_iff name).mp hok b hb)

/-! What every packer inherits from the constructor (R150): the two outcomes, by the opcode's length. -/

section ValidImage

variable {s : State} {v : Byte} {p : List Byte} {n : Nat} (hc : romCheck s.rom = true) (hp : Present s v)
  (hn : p.length = n)
include hc hp hn

theorem constructMessage_answers (hv : v.toNat / 32 = n) :
    Answers s (constructMessage v (some p) s) (.message { op := v, payload := p }) := by
  rw [constructMessage_of_length_eq hc hp (hn.trans hv.symm)]; exact answers_complete s _

theorem constructMessage_raises (hv : v.toNat / 32 ≠ n) :
    Raises s (constructMessage v (some p) s) .payloadLengthMismatch := by
  rw [constructMessage_of_length_ne hc hp fun hlen => hv (hlen.symm.trans hn)]; exact raises_raise s _

end ValidImage

/-- Settles O23: the address and the combined byte are the rule's numbers, and the layout has seven bytes. -/
theorem pkEngPacksEngineReport : Obligations.PkEngPacksEngineReport := by
  intro v session addr speed dir f1 f2 f3 s hc hp
  have hlen := enginePayload_length session addr speed dir f1 f2 f3
  refine ⟨hasCode_of_encode rfl, fun hv => ?_, fun hv => ?_⟩
  · obtain ⟨a1, a0, ha1, ha0, haddr⟩ := Bits.be16_eq_pair addr
    refine ⟨a1, a0, Bits.speedDir dir speed, ha1, ha0, Bits.speedDir_toNat dir speed, ?_⟩
    have hbytes : enginePayload session addr speed dir f1 f2 f3 =
        [session, a1, a0, Bits.speedDir dir speed, f1.getD 0x00#8, f2.getD 0x00#8, f3.getD 0x00#8] := by
      rw [enginePayload, haddr]; rfl
    rw [exec_pkEng, ← hbytes]; exact constructMessage_answers hc hp hlen hv
  · rw [exec_pkEng]; exact constructMessage_raises hc hp hlen hv

/-- Settles O24: the layout is the two bytes of each number. -/
theorem pkAlevPacksNodeAndEvent : Obligations.PkAlevPacksNodeAndEvent := by
  intro v node event s hc hp
  have hlen := eventPayload_length node event
  refine ⟨hasCode_of_encode rfl, fun hv => ?_, fun hv => ?_⟩
  · obtain ⟨n1, n0, hn1, hn0, hnode⟩ := Bits.be16_eq_pair node
    obtain ⟨e1, e0, he1, he0, hevent⟩ := Bits.be16_eq_pair event
    refine ⟨n1, n0, e1, e0, hn1, hn0, he1, he0, ?_⟩
    have hbytes : eventPayload node event = [n1, n0, e1, e0] := by rw [eventPayload, hnode, hevent]; rfl
    rw [exec_pkAlev, ← hbytes]; exact constructMessage_answers hc hp hlen hv
  · rw [exec_pkAlev]; exact constructMessage_raises hc hp hlen hv

/-- Settles O25: the node's two bytes, then the single bytes as they stand. -/
theorem pkCsrptPacksStationReport : Obligations.PkCsrptPacksStationReport := by
  intro v node cs flags majorRev minorRev build s hc hp
  have hlen := stationPayload_length node cs flags majorRev minorRev build
  refine ⟨hasCode_of_encode rfl, fun hv => ?_, fun hv => ?_⟩
  · obtain ⟨n1, n0, hn1, hn0, hnode⟩ := Bits.be16_eq_pair node
    refine ⟨n1, n0, hn1, hn0, ?_⟩
    have hbytes : stationPayload node cs flags majorRev minorRev build =
        [n1, n0, cs, flags, majorRev, minorRev, build.getD 0x00#8] := by
      rw [stationPayload, hnode]; rfl
    rw [exec_pkCsrpt, ← hbytes]; exact constructMessage_answers hc hp hlen hv
  · rw [exec_pkCsrpt]; exact constructMessage_raises hc hp hlen hv

/-- Settles O26: a name that is not ASCII is refused; any other is laid out in seven bytes, truncated or padded. -/
theorem pkNameTruncatesOrPads : Obligations.PkNameTruncatesOrPads := by
  intro v name s
  have hlen := namePayload_length name
  refine ⟨hasCode_of_encode rfl, fun hbad => exec_pkName_of_not_ascii hbad v s, fun hc hp hascii => ?_⟩
  rw [exec_pkName_of_ascii hascii]
  refine ⟨fun hv hlong => ?_, fun hv hshort => ?_, fun hv => ?_⟩
  · rw [← namePayload_of_long hlong]; exact constructMessage_answers hc hp hlen hv
  · rw [← namePayload_of_short hshort]; exact constructMessage_answers hc hp hlen hv
  · exact constructMessage_raises hc hp hlen hv

end Machine
end Sys2Proof

/-! PROOF. Unit SER (45_frame_serializer.md): a header is decoded from its packed bytes, so that comparing those compares headers
(R100); what a frame renders to and what comparing two frames finds, and O29 and O31 from them. -/

namespace Sys2Proof

/-- The three fields of a header (R10) make it, so equal numbers in them make equal headers. -/
theorem Header.eq_of_toNat_eq {h1 h2 : Header} (hmajor : h1.major.toNat = h2.major.toNat)
    (hminor : h1.minor.toNat = h2.minor.toNat) (hsid : h1.sid.toNat = h2.sid.toNat) : h1 = h2 := by
  obtain ⟨major, minor, sid⟩ := h1
  obtain rfl : major = h2.major := BitVec.eq_of_toNat_eq hmajor
  obtain rfl : minor = h2.minor := BitVec.eq_of_toNat_eq hminor
  obtain rfl : sid = h2.sid := BitVec.eq_of_toNat_eq hsid
  rfl

namespace Bits

/-- The fields of a header's packed bytes are the header's (R53, R93). -/
@[simp] theorem headerOf_packed (h : Header) : headerOf (highByte h) (lowByte h) = h := by
  have hhigh := highByte_toNat h
  have hlow := lowByte_toNat h
  apply Header.eq_of_toNat_eq
  · calc (majorOf (highByte h)).toNat = (highByte h).toNat / 64 := majorOf_toNat _
      _ = h.major.toNat := by omega
  · calc (minorOf (highByte h)).toNat = (highByte h).toNat / 16 % 4 := minorOf_toNat _
      _ = h.minor.toNat := by omega
  · rw [headerOf_sid_toNat]; omega

/-- Packing is injective (R100): what can be decoded back was not confused. -/
theorem packed_eq_iff (h1 h2 : Header) :
    (highByte h1 = highByte h2 ∧ lowByte h1 = lowByte h2) ↔ h1 = h2 := by
  constructor
  · rintro ⟨hhigh, hlow⟩
    rw [← headerOf_packed h1, hhigh, hlow, headerOf_packed]
  · rintro rfl
    exact ⟨rfl, rfl⟩

end Bits

namespace Machine

/-! The comparisons as equalities (R99, R136, R175). -/

theorem headerEq_iff (h1 h2 : Header) : headerEq h1 h2 = true ↔ h1 = h2 := by
  rw [headerEq, Bool.and_eq_true, beq_iff_eq, beq_iff_eq, Bits.packed_eq_iff]

theorem messageEq_iff (m1 m2 : Message) : messageEq m1 m2 = true ↔ m1 = m2 := by
  obtain ⟨op1, payload1⟩ := m1
  obtain ⟨op2, payload2⟩ := m2
  rw [messageEq, Bool.and_eq_true, beq_iff_eq, beq_iff_eq, Message.mk.injEq]

/-- The rtr bits are free on both sides: frames that differ in them alone compare equal. -/
theorem frameEq_iff (f1 f2 : Frame) : frameEq f1 f2 = true ↔ f1.header = f2.header ∧ f1.message = f2.message := by
  obtain ⟨h1, message1, rtr1⟩ := f1
  obtain ⟨h2, message2, rtr2⟩ := f2
  rw [frameEq, Bool.and_eq_true, headerEq_iff]
  refine and_congr_right fun _ => ?_
  cases message1 with
  | none =>
    cases message2 with
    | none => exact iff_of_true rfl rfl
    | some m2 => exact iff_of_false Bool.false_ne_true nofun
  | some m1 =>
    cases message2 with
    | none => exact iff_of_false Bool.false_ne_true nofun
    | some m2 => exact (messageEq_iff m1 m2).trans Option.some_inj.symm

/-- The bytes whose digits stand between the mode character and the `';'` (R171): none when the message is absent. -/
def messageBytes (f : Frame) : List Byte := f.message.elim [] Message.bytes

/-- The wire form in R171's characters, the two runs of digits as texts of bytes. -/
theorem frameAscii_eq (f : Frame) :
    frameAscii f = [0x3A#8, 0x53#8] ++ Bits.hexBytes [Bits.highByte f.header, Bits.lowByte f.header] ++
      [if f.rtr then 0x52#8 else 0x4E#8] ++ Bits.hexBytes (messageBytes f) ++ [0x3B#8] := by
  obtain ⟨h, message, rtr⟩ := f
  cases message with
  | none => rfl
  | some m => rfl

/-! The rows of the unit, as `exec` runs them on frames (R14). The state's ROM does not occur. -/

theorem exec_frmEnc_of_messageOk {f : Frame} (hf : f.messageOk = true) (s : State) :
    exec (.frmEnc f) s = .next (s.putAscii (frameAscii f)) :=
  withFrame_of_ok hf

theorem exec_frmEq_of_messageOk {f1 f2 : Frame} (hf1 : f1.messageOk = true) (hf2 : f2.messageOk = true) (s : State) :
    exec (.frmEq f1 f2) s = .next (s.complete (.bit (frameEq f1 f2))) :=
  (withFrame_of_ok hf1).trans (withFrame_of_ok hf2)

/-- Settles O29: FRM.ENC puts out the wire form, whose two runs of digits are those of the header's packed bytes and of the
message's binary form. -/
theorem frmEncRendersTheWireForm : Obligations.FrmEncRendersTheWireForm := by
  intro f s hf
  refine ⟨hasCode_of_encode rfl, Bits.hexBytes [Bits.highByte f.header, Bits.lowByte f.header],
    Bits.hexBytes (messageBytes f), isHexOf_hexBytes _, isHexOf_hexBytes _, ?_⟩
  rw [exec_frmEnc_of_messageOk hf, ← frameAscii_eq]; exact putsAscii_putAscii s _

/-- Settles O31: FRM.EQ completes with the comparison, in which the rtr bits do not occur. -/
theorem frmEqIgnoresRtr : Obligations.FrmEqIgnoresRtr := by
  intro f1 f2 s hf1 hf2
  refine ⟨hasCode_of_encode rfl, frameEq f1 f2, ?_, frameEq_iff f1 f2⟩
  rw [exec_frmEq_of_messageOk hf1 hf2]; exact answers_complete s _

end Machine
end Sys2Proof

/-! PROOF. Unit SCN (46_frame_scanner.md): Emit case by case of R186; the tokenizer of R184 against the declarative definition of
R180 to R182, by what the candidate in progress and the bytes still to come add to the shape matches; and O32 and O35 from
them. -/

namespace Sys2Proof
namespace Bits

/-! Digits paired into bytes (R37, R186). -/

/-- A byte of two nibbles as a number: the low one stands below the high one, so the `|||` is a sum. -/
theorem ofNibbles_toNat (hi lo : Nibble) : (ofNibbles hi lo).toNat = 16 * hi.toNat + lo.toNat := by
  have hhigh : (hi.setWidth 8 <<< 4).toNat = hi.toNat <<< 4 := by
    rw [BitVec.toNat_shiftLeft, BitVec.toNat_setWidth, Nat.shiftLeft_eq]; omega
  have hlow : (lo.setWidth 8).toNat = lo.toNat := by rw [BitVec.toNat_setWidth]; omega
  have hbelow : lo.toNat < 2 ^ 4 := lo.isLt
  rw [ofNibbles, BitVec.toNat_or, hhigh, hlow, ← Nat.shiftLeft_add_eq_or_of_lt hbelow, Nat.shiftLeft_eq]
  omega

theorem pairNibbles_of_odd {ds : List Nibble} (hodd : ds.length % 2 = 1) : pairNibbles ds = none := by
  cases hpair : pairNibbles ds with
  | none => rfl
  | some bs => have hlen := pairNibbles_length hpair; omega

/-- Digits that are, as numbers, those of the bytes `bs` pair up into `bs`. -/
theorem pairNibbles_of_toNat {ds : List Nibble} {bs : List Byte}
    (h : ds.map BitVec.toNat = bs.flatMap fun b => [b.toNat / 16, b.toNat % 16]) : pairNibbles ds = some bs := by
  have hnibbles : ds = bs.flatMap fun b => [hiNibble b, loNibble b] := by
    apply List.map_injective_iff.mpr fun _ _ => BitVec.eq_of_toNat_eq
    simp only [h, List.map_flatMap, List.map_cons, List.map_nil, hiNibble_toNat, loNibble_toNat]
  rw [hnibbles, pairNibbles_nibbles]

end Bits

namespace Machine

/-! Emit, one equation for each case of R186. -/

section Emit

variable {rom : Rom} {dg : List Nibble} {bs : List Byte} (d0 d1 d2 d3 : Nibble) (rtr : Bool)

theorem emit_of_odd (hodd : dg.length % 2 = 1) : emit rom d0 d1 d2 d3 rtr dg = .error .oddHexLength := by
  rw [emit, Bits.pairNibbles_of_odd hodd]

theorem emit_of_codec_error {k : ErrKind} (hpair : Bits.pairNibbles dg = some bs) (hm : messageOf rom bs = .error k) :
    emit rom d0 d1 d2 d3 rtr dg = .error (.codec k) := by
  simp only [emit, hpair, hm]

theorem emit_of_message {m : Message} (hpair : Bits.pairNibbles dg = some bs) (hm : messageOf rom bs = .ok m) :
    emit rom d0 d1 d2 d3 rtr dg =
      .ok { header := Bits.headerOf (Bits.ofNibbles d0 d1) (Bits.ofNibbles d2 d3), message := some m, rtr := rtr } := by
  simp only [emit, hpair, hm]

end Emit

/-- Settles O35: an odd number of digits does not pair up; digits that do give their bytes to the message codec, whose answer is
the drop reason or the frame's message. -/
theorem emitDecodesTheDigits : Obligations.EmitDecodesTheDigits := by
  intro rom d0 d1 d2 d3 rtr dg
  refine ⟨emit_of_odd d0 d1 d2 d3 rtr, fun bs hdigits => ?_⟩
  have hpair : Bits.pairNibbles dg = some bs := Bits.pairNibbles_of_toNat hdigits
  exact ⟨fun k hm => emit_of_codec_error d0 d1 d2 d3 rtr hpair hm,
    fun m hm => ⟨Bits.ofNibbles d0 d1, Bits.ofNibbles d2 d3, Bits.ofNibbles_toNat d0 d1, Bits.ofNibbles_toNat d2 d3,
      emit_of_message d0 d1 d2 d3 rtr hpair hm⟩⟩

/-! One pass of the tokenizer (R184). -/

/-- The shape match that the digits `more` and then a `';'` make of what the scanner holds in DN. -/
def Scanner.held (scn : Scanner) (more : List Nibble) : ShapeMatch where
  start := scn.start
  stop  := scn.pos + more.length + 1
  d0    := scn.hn0
  d1    := scn.hn1
  d2    := scn.hn2
  d3    := scn.hn3
  rtr   := scn.rtr
  dg    := scn.dig ++ more

/-- The byte completes a shape match: R184's row for `';'` in DN. -/
def Scanner.completes (scn : Scanner) (c : Byte) : Bool := scn.state == .dn && c == Bits.semicolon

/-- The shape match, if any, that the byte completes. -/
def Scanner.completed (scn : Scanner) (c : Byte) : List ShapeMatch := if scn.completes c then [scn.held []] else []

/-- The span of a shape match on the sideband (R190). -/
def ShapeMatch.span (rom : Rom) (m : ShapeMatch) : Span where
  start   := m.start
  stop    := m.stop
  outcome := spanOutcome (m.emit rom)

section Pass

variable {rom : Rom} {scn : Scanner} {c : Byte}

theorem completes_iff : scn.completes c = true ↔ scn.state = .dn ∧ c = Bits.semicolon := by
  simp [Scanner.completes]

theorem not_completes_of_ne_dn (h : scn.state ≠ .dn) : ¬ scn.completes c = true :=
  fun hc => h (completes_iff.mp hc).1

@[simp] theorem restart_colon (scn : Scanner) : restart scn Bits.colon = { scn with state := .colon, start := scn.pos } :=
  if_pos rfl

theorem restart_of_ne_colon (hc : c ≠ Bits.colon) : restart scn c = { scn with state := .idle } :=
  if_neg hc

@[simp] theorem restart_out (scn : Scanner) (c : Byte) : (restart scn c).out = scn.out := by
  unfold restart; split <;> rfl

/-- A `':'` fits no state but IDLE, and everywhere begins a candidate (R184). -/
theorem scanAct_colon (rom : Rom) (scn : Scanner) :
    scanAct rom scn Bits.colon = ({ scn with state := .colon, start := scn.pos }, none) := by
  have hmode : rtrOfMode Bits.colon = none := by decide
  have hS : Bits.colon ≠ Bits.charS := by decide
  have hend : Bits.colon ≠ Bits.semicolon := by decide
  cases hs : scn.state <;> simp only [scanAct, hs, Bits.hexval_colon, hmode, if_neg hS, if_neg hend, restart_colon]

theorem scanAct_of_completes (h : scn.completes c = true) : scanAct rom scn c = finishMatch rom scn := by
  obtain ⟨hs, rfl⟩ := completes_iff.mp h
  simp only [scanAct, hs, Bits.hexval_semicolon, if_true]

/-- A byte that completes no match puts nothing out. -/
theorem scanAct_silent (h : ¬ scn.completes c = true) :
    (scanAct rom scn c).1.out = scn.out ∧ (scanAct rom scn c).2 = none := by
  rw [completes_iff] at h
  cases hs : scn.state with
  | idle => simp [scanAct, hs]
  | dn =>
    have hc : c ≠ Bits.semicolon := fun hc => h ⟨hs, hc⟩
    simp only [scanAct, hs, if_neg hc]
    split <;> simp
  | _ =>
    simp only [scanAct, hs]
    split <;> simp

/-- A pass puts out the frame and the span of the match its byte completes, and nothing else. -/
theorem scanByte_output (rom : Rom) (scn : Scanner) (c : Byte) :
    (scanByte rom scn c).1.out = scn.out ++ (scn.completed c).flatMap (fun m => emitted (m.emit rom)) ∧
      (scanByte rom scn c).2.toList = (scn.completed c).map (ShapeMatch.span rom) := by
  by_cases h : scn.completes c = true
  · rw [scanByte, scanAct_of_completes h, Scanner.completed, if_pos h]
    have hfinish : finishMatch rom scn =
        ({ scn with out := scn.out ++ emitted ((scn.held []).emit rom), state := .idle },
          some ((scn.held []).span rom)) := by
      simp only [ShapeMatch.span, ShapeMatch.emit, Scanner.held, List.append_nil]; rfl
    exact ⟨by rw [hfinish, List.flatMap_singleton], by rw [hfinish]; rfl⟩
  · obtain ⟨hout, hspan⟩ := scanAct_silent (rom := rom) h
    rw [Scanner.completed, if_neg h]
    exact ⟨by simp only [scanByte, hout, List.flatMap_nil, List.append_nil], by rw [scanByte, hspan]; rfl⟩

end Pass

/-! The candidate in progress. -/

/-- The shape match that the candidate in the registers becomes with the bytes to come: the machine runs on until a `';'`
completes it, and a `':'` ends it for good (R184). -/
def pending (rom : Rom) : List Byte → Scanner → Option ShapeMatch
  | [], _ => none
  | c :: rest, scn =>
    if c = Bits.colon then none
    else if scn.completes c then some (scn.held [])
    else pending rom rest (scanByte rom scn c).1

section Pending

variable {rom : Rom} {scn t : Scanner} {c : Byte} {rest : List Byte} {m : ShapeMatch}

@[simp] theorem pending_nil (rom : Rom) (scn : Scanner) : pending rom [] scn = none := rfl

@[simp] theorem pending_colon (rom : Rom) (scn : Scanner) (rest : List Byte) :
    pending rom (Bits.colon :: rest) scn = none :=
  if_pos rfl

theorem pending_of_completes (h : scn.completes c = true) : pending rom (c :: rest) scn = some (scn.held []) := by
  have hc : c ≠ Bits.colon := by obtain ⟨-, rfl⟩ := completes_iff.mp h; decide
  rw [pending, if_neg hc, if_pos h]

theorem pending_of_not_completes (hc : c ≠ Bits.colon) (h : ¬ scn.completes c = true) :
    pending rom (c :: rest) scn = pending rom rest (scanByte rom scn c).1 := by
  rw [pending, if_neg hc, if_neg h]

/-- In IDLE there is no candidate. -/
theorem pending_idle (hs : scn.state = .idle) : pending rom rest scn = none := by
  induction rest generalizing scn with
  | nil => rfl
  | cons c rest ih =>
    by_cases hc : c = Bits.colon
    · rw [hc, pending_colon]
    · rw [pending_of_not_completes hc (not_completes_of_ne_dn (by simp [hs]))]
      apply ih
      simp only [scanByte, scanAct, hs, restart_of_ne_colon hc]

/-- No byte of the rest of a candidate's match is a `':'`: the machine has run over all of them (R182). -/
theorem ne_colon_of_pending (h : pending rom rest scn = some m) :
    ∀ x ∈ rest.take (m.stop - scn.pos), x ≠ Bits.colon := by
  induction rest generalizing scn with
  | nil => simp
  | cons c rest ih =>
    have hc : c ≠ Bits.colon := by rintro rfl; rw [pending_colon] at h; cases h
    by_cases hcomp : scn.completes c = true
    · rw [pending_of_completes hcomp, Option.some_inj] at h
      obtain rfl := h
      simpa [Scanner.held] using hc
    · rw [pending_of_not_completes hc hcomp] at h
      have hpos : (scanByte rom scn c).1.pos = scn.pos + 1 := rfl
      cases hn : m.stop - scn.pos with
      | zero => simp
      | succ n =>
        have hrest : m.stop - (scanByte rom scn c).1.pos = n := by omega
        rw [List.take_succ_cons, List.forall_mem_cons]
        exact ⟨hc, hrest ▸ ih h⟩

/-! The rows of R184's table, as what they make of the candidate. -/

/-- A byte that does not fit the state ends the candidate (RESTART). -/
theorem pending_of_restart (hcomp : ¬ scn.completes c = true) (h : (scanAct rom scn c).1 = restart scn c) :
    pending rom (c :: rest) scn = none := by
  by_cases hc : c = Bits.colon
  · rw [hc, pending_colon]
  · rw [pending_of_not_completes hc hcomp, scanByte, h, restart_of_ne_colon hc]
    exact pending_idle rfl

/-- Any other byte of the state moves it on. -/
theorem pending_of_fit (hcomp : ¬ scn.completes c = true) (hc : c ≠ Bits.colon) (h : (scanByte rom scn c).1 = t) :
    pending rom (c :: rest) scn = pending rom rest t := by
  rw [pending_of_not_completes hc hcomp, h]

/-- The row of COLON. -/
theorem pending_at_colon (hs : scn.state = .colon) :
    pending rom (c :: rest) scn =
      if c = Bits.charS then pending rom rest { scn with state := .h0, pos := scn.pos + 1 } else none := by
  have hcomp : ¬ scn.completes c = true := not_completes_of_ne_dn (by simp [hs])
  split
  next hc =>
    have hne : c ≠ Bits.colon := by rintro rfl; revert hc; decide
    exact pending_of_fit hcomp hne (by simp only [scanByte, scanAct, hs, if_pos hc])
  next hc => exact pending_of_restart hcomp (by simp only [scanAct, hs, if_neg hc])

/-- The row of MODE. -/
theorem pending_at_mode (hs : scn.state = .mode) :
    pending rom (c :: rest) scn = (rtrOfMode c).bind fun r =>
      pending rom rest { scn with rtr := r, dig := [], state := .d1, pos := scn.pos + 1 } := by
  have hcomp : ¬ scn.completes c = true := not_completes_of_ne_dn (by simp [hs])
  cases hr : rtrOfMode c with
  | none => exact pending_of_restart hcomp (by simp only [scanAct, hs, hr])
  | some r =>
    have hne : c ≠ Bits.colon := by rintro rfl; revert hr; simp [rtrOfMode]
    exact pending_of_fit hcomp hne (by simp only [scanByte, scanAct, hs, hr])

/-- The states that go on with a digit and nothing else. -/
def digitStates : List ScnState := [.h0, .h1, .h2, .h3, .d1]

theorem mem_digitStates {state : ScnState} :
    state ∈ digitStates ↔ state = .h0 ∨ state = .h1 ∨ state = .h2 ∨ state = .h3 ∨ state = .d1 := by
  simp [digitStates]

/-- The registers after the digit the state needs. -/
def Scanner.keepDigit (scn : Scanner) (d : Nibble) : Scanner :=
  match scn.state with
  | .h0 => { scn with hn0 := d, state := .h1, pos := scn.pos + 1 }
  | .h1 => { scn with hn1 := d, state := .h2, pos := scn.pos + 1 }
  | .h2 => { scn with hn2 := d, state := .h3, pos := scn.pos + 1 }
  | .h3 => { scn with hn3 := d, state := .mode, pos := scn.pos + 1 }
  | .d1 => { scn with dig := [d], state := .dn, pos := scn.pos + 1 }
  | _ => scn

theorem scanByte_of_needed_digit {d : Nibble} (hs : scn.state ∈ digitStates) (hd : Bits.hexval c = some d) :
    (scanByte rom scn c).1 = scn.keepDigit d := by
  rcases mem_digitStates.mp hs with h | h | h | h | h <;> simp only [scanByte, scanAct, Scanner.keepDigit, h, hd]

theorem scanAct_of_missing_digit (hs : scn.state ∈ digitStates) (hd : Bits.hexval c = none) :
    (scanAct rom scn c).1 = restart scn c := by
  rcases mem_digitStates.mp hs with h | h | h | h | h <;> simp only [scanAct, h, hd]

/-- The rows of H0 to H3 and of D1. -/
theorem pending_at_digitState (hs : scn.state ∈ digitStates) :
    pending rom (c :: rest) scn = (Bits.hexval c).bind fun d => pending rom rest (scn.keepDigit d) := by
  have hcomp : ¬ scn.completes c = true := not_completes_of_ne_dn fun hdn => by simp [hdn, digitStates] at hs
  cases hd : Bits.hexval c with
  | none => exact pending_of_restart hcomp (scanAct_of_missing_digit hs hd)
  | some d => exact pending_of_fit hcomp (Bits.ne_colon_of_hexval hd) (scanByte_of_needed_digit hs hd)

/-! The digits to come (R181), and the rest of a candidate that has reached them. -/

theorem digitRun_of_digit {d : Nibble} (hd : Bits.hexval c = some d) (rest : List Byte) :
    digitRun (c :: rest) = (d :: (digitRun rest).1, (digitRun rest).2) := by
  simp only [digitRun, hd]

theorem digitRun_of_not_digit (hd : Bits.hexval c = none) (rest : List Byte) : digitRun (c :: rest) = ([], c :: rest) := by
  simp only [digitRun, hd]

/-- A digit more is kept in the registers or comes with the rest: the match is the same. -/
theorem held_cons (state : ScnState) (d : Nibble) (more : List Nibble) :
    ({ scn with dig := scn.dig ++ [d], state := state, pos := scn.pos + 1 } : Scanner).held more =
      scn.held (d :: more) := by
  simp only [Scanner.held, List.length_cons, List.append_assoc, List.singleton_append, Nat.add_comm more.length 1,
    Nat.add_assoc]

/-- The rows of DN: a candidate with a message digit is a match when `';'` stands after the run of digits to come. -/
theorem pending_at_dn (hs : scn.state = .dn) :
    pending rom rest scn = (digitRun rest).2.head?.bind fun e =>
      if e = Bits.semicolon then some (scn.held (digitRun rest).1) else none := by
  induction rest generalizing scn with
  | nil => rfl
  | cons c rest ih =>
    cases hd : Bits.hexval c with
    | none =>
      rw [digitRun_of_not_digit hd, List.head?_cons, Option.bind_some]
      split
      next hc => exact pending_of_completes (completes_iff.mpr ⟨hs, hc⟩)
      next hc =>
        have hcomp : ¬ scn.completes c = true := fun h => hc (completes_iff.mp h).2
        exact pending_of_restart hcomp (by simp only [scanAct, hs, hd, if_neg hc])
    | some d =>
      have hcomp : ¬ scn.completes c = true := fun h => Bits.ne_semicolon_of_hexval hd (completes_iff.mp h).2
      have hpass : (scanByte rom scn c).1 = { scn with dig := scn.dig ++ [d], pos := scn.pos + 1 } := by
        simp only [scanByte, scanAct, hs, hd]
      have hafter : (scanByte rom scn c).1.state = .dn := by rw [hpass]; exact hs
      rw [pending_of_fit hcomp (Bits.ne_colon_of_hexval hd) rfl, ih hafter, hpass, digitRun_of_digit hd]
      simp only [held_cons]

/-- From D1 on: a match takes a run of digits that is not empty, and `';'` after it. -/
theorem pending_at_d1 (hs : scn.state = .d1) (hdig : scn.dig = []) :
    pending rom rest scn = (digitRun rest).2.head?.bind fun e =>
      if (digitRun rest).1 ≠ [] ∧ e = Bits.semicolon then some (scn.held (digitRun rest).1) else none := by
  cases rest with
  | nil => rfl
  | cons c rest =>
    rw [pending_at_digitState (by simp [hs, digitStates])]
    cases hd : Bits.hexval c with
    | none => simp [digitRun_of_not_digit hd]
    | some d =>
      have hkeep : scn.keepDigit d = { scn with dig := scn.dig ++ [d], state := .dn, pos := scn.pos + 1 } := by
        simp only [Scanner.keepDigit, hs, hdig, List.nil_append]
      rw [Option.bind_some, hkeep, pending_at_dn rfl, digitRun_of_digit hd]
      simp [held_cons]

/-- R181's shape at a `':'` with enough bytes after it, byte by byte in the order the machine reads them. -/
theorem matchAt_colon_cons (at0 : Nat) (s x0 x1 x2 x3 c : Byte) (rest : List Byte) :
    matchAt at0 (Bits.colon :: s :: x0 :: x1 :: x2 :: x3 :: c :: rest) =
      if s = Bits.charS then
        (Bits.hexval x0).bind fun d0 => (Bits.hexval x1).bind fun d1 => (Bits.hexval x2).bind fun d2 =>
        (Bits.hexval x3).bind fun d3 => (rtrOfMode c).bind fun rtr => (digitRun rest).2.head?.bind fun e =>
          if (digitRun rest).1 ≠ [] ∧ e = Bits.semicolon then
            some { start := at0, stop := at0 + 8 + (digitRun rest).1.length, d0 := d0, d1 := d1, d2 := d2, d3 := d3,
                   rtr := rtr, dg := (digitRun rest).1 }
          else none
      else none := by
  by_cases hs : s = Bits.charS
  · rw [if_pos hs]
    cases h0 : Bits.hexval x0 with
    | none => simp only [matchAt, h0, Option.bind_none]
    | some d0 =>
    cases h1 : Bits.hexval x1 with
    | none => simp only [matchAt, h0, h1, Option.bind_none, Option.bind_some]
    | some d1 =>
    cases h2 : Bits.hexval x2 with
    | none => simp only [matchAt, h0, h1, h2, Option.bind_none, Option.bind_some]
    | some d2 =>
    cases h3 : Bits.hexval x3 with
    | none => simp only [matchAt, h0, h1, h2, h3, Option.bind_none, Option.bind_some]
    | some d3 =>
    cases hm : rtrOfMode c with
    | none => simp only [matchAt, h0, h1, h2, h3, hm, Option.bind_none, Option.bind_some]
    | some rtr =>
    rcases hrun : digitRun rest with ⟨dg, _ | ⟨e, tail⟩⟩
    · simp [matchAt, h0, h1, h2, h3, hm, hrun]
    · simp [matchAt, h0, h1, h2, h3, hm, hrun, hs]
  · rw [if_neg hs]
    simp only [matchAt]
    split
    · exact if_neg fun h => hs h.2.1
    · rfl

/-- The whole candidate: after its `':'` the machine finds what R181 says begins there. -/
theorem pending_eq_matchAt (hs : scn.state = .colon) (hpos : scn.pos = scn.start + 1) :
    pending rom rest scn = matchAt scn.start (Bits.colon :: rest) := by
  have hlen (n : Nat) : scn.start + 1 + 1 + 1 + 1 + 1 + 1 + 1 + n + 1 = scn.start + 8 + n := by omega
  rcases rest with _ | ⟨s, _ | ⟨x0, _ | ⟨x1, _ | ⟨x2, _ | ⟨x3, _ | ⟨mode, rest⟩⟩⟩⟩⟩⟩
  case cons.cons.cons.cons.cons.cons =>
    rw [matchAt_colon_cons, pending_at_colon hs]
    refine if_congr Iff.rfl ?_ rfl
    simp [pending_at_digitState, mem_digitStates, Scanner.keepDigit, pending_at_mode, pending_at_d1,
      Scanner.held, hpos, hlen]
  case nil => rfl
  all_goals
    rw [pending_at_colon hs]
    split <;> simp [pending_at_digitState, mem_digitStates, Scanner.keepDigit, matchAt]

end Pending

/-! The declarative definition, byte by byte. -/

theorem matchAt_of_ne_colon {c : Byte} (hc : c ≠ Bits.colon) (at0 : Nat) (rest : List Byte) :
    matchAt at0 (c :: rest) = none := by
  unfold matchAt
  split
  next heq =>
    obtain ⟨rfl, -⟩ := List.cons.inj heq
    split
    · exact if_neg fun h => hc h.1
    · rfl
  next => rfl

/-- The search passes over bytes that hold no `':'`, skipped or not. -/
theorem shapeMatchesFrom_of_no_colon (at0 skip : Nat) {buf : List Byte}
    (hskip : ∀ x ∈ buf.take skip, x ≠ Bits.colon) : shapeMatchesFrom at0 skip buf = shapeMatchesFrom at0 0 buf := by
  induction buf generalizing at0 skip with
  | nil => rfl
  | cons c rest ih =>
    cases skip with
    | zero => rfl
    | succ k =>
      rw [List.take_succ_cons, List.forall_mem_cons] at hskip
      obtain ⟨hc, hrest⟩ := hskip
      simp only [shapeMatchesFrom, matchAt_of_ne_colon hc, ih (at0 + 1) k hrest]

theorem shapeMatchesFrom_of_ne_colon {c : Byte} (hc : c ≠ Bits.colon) (at0 : Nat) (rest : List Byte) :
    shapeMatchesFrom at0 0 (c :: rest) = shapeMatchesFrom (at0 + 1) 0 rest := by
  simp only [shapeMatchesFrom, matchAt_of_ne_colon hc]

/-- At a `':'` the search finds what a candidate begun there becomes, and goes on with the next byte: no match begins inside a
match (R182). -/
theorem shapeMatchesFrom_colon (rom : Rom) {scn : Scanner} (hs : scn.state = .colon) (hpos : scn.pos = scn.start + 1)
    (rest : List Byte) :
    shapeMatchesFrom scn.start 0 (Bits.colon :: rest) =
      (pending rom rest scn).toList ++ shapeMatchesFrom scn.pos 0 rest := by
  rw [shapeMatchesFrom, ← pending_eq_matchAt (rom := rom) hs hpos]
  cases hm : pending rom rest scn with
  | none => rw [hpos]; rfl
  | some m =>
    have hskip : ∀ x ∈ rest.take (m.stop - scn.start - 1), x ≠ Bits.colon := by
      rw [Nat.sub_sub, ← hpos]; exact ne_colon_of_pending hm
    rw [hpos]
    exact congrArg (m :: ·) (shapeMatchesFrom_of_no_colon _ _ hskip)

/-! The simulation (R185): what the machine has still to find. -/

/-- The shape matches that the bytes to come complete: the candidate's, and those that begin among these bytes. -/
def toFind (rom : Rom) (scn : Scanner) (rest : List Byte) : List ShapeMatch :=
  (pending rom rest scn).toList ++ shapeMatchesFrom scn.pos 0 rest

theorem toFind_nil (rom : Rom) (scn : Scanner) : toFind rom scn [] = [] := rfl

/-- Nothing but the whole buffer's shape matches is to be found from a scanner in IDLE at its beginning. -/
theorem toFind_of_start (rom : Rom) {scn : Scanner} (hs : scn.state = .idle) (hpos : scn.pos = 0) (buf : List Byte) :
    toFind rom scn buf = shapeMatches buf := by
  rw [toFind, pending_idle hs, hpos]; rfl

/-- The invariant of a pass: what is to be found is what the byte completes, and then what is to be found after it. -/
theorem toFind_cons (rom : Rom) (scn : Scanner) (c : Byte) (rest : List Byte) :
    toFind rom scn (c :: rest) = scn.completed c ++ toFind rom (scanByte rom scn c).1 rest := by
  have hpos : (scanByte rom scn c).1.pos = scn.pos + 1 := rfl
  by_cases hc : c = Bits.colon
  · subst hc
    have hpass : (scanByte rom scn Bits.colon).1 = { scn with state := .colon, start := scn.pos, pos := scn.pos + 1 } := by
      rw [scanByte, scanAct_colon]
    have hnot : ¬ scn.completes Bits.colon = true := fun h => absurd (completes_iff.mp h).2 (by decide)
    rw [toFind, pending_colon, Scanner.completed, if_neg hnot, hpass, toFind, Option.toList_none, List.nil_append,
      List.nil_append]
    exact shapeMatchesFrom_colon rom (scn := { scn with state := .colon, start := scn.pos, pos := scn.pos + 1 }) rfl rfl rest
  · rw [toFind, toFind, shapeMatchesFrom_of_ne_colon hc, hpos, Scanner.completed]
    by_cases hcomp : scn.completes c = true
    · have hidle : (scanByte rom scn c).1.state = .idle := by rw [scanByte, scanAct_of_completes hcomp]; rfl
      rw [pending_of_completes hcomp, if_pos hcomp, pending_idle hidle]; rfl
    · rw [pending_of_not_completes hc hcomp, if_neg hcomp]; rfl

/-- The machine over `rest` puts out the frames and the spans of what it has to find in it. -/
theorem scanLoop_toFind (rom : Rom) (rest : List Byte) (scn : Scanner) :
    (scanLoop rom rest scn).1.out = scn.out ++ (toFind rom scn rest).flatMap (fun m => emitted (m.emit rom)) ∧
      (scanLoop rom rest scn).2 = (toFind rom scn rest).map (ShapeMatch.span rom) := by
  induction rest generalizing scn with
  | nil => simp [scanLoop, toFind_nil]
  | cons c rest ih =>
    obtain ⟨hout, hspans⟩ := ih (scanByte rom scn c).1
    obtain ⟨hbyteOut, hbyteSpan⟩ := scanByte_output rom scn c
    rw [toFind_cons, List.flatMap_append, List.map_append]
    simp only [scanLoop, hout, hspans, hbyteOut, hbyteSpan, List.append_assoc, and_self]

/-- R185 for the outputs: from a cleared scanner, the machine gives the frames and the spans of the declarative definition. -/
theorem scanLoop_agrees (rom : Rom) (buf : List Byte) {scn : Scanner} (hclear : scn.isClear = true) :
    (scanLoop rom buf scn).1.out = framesOf rom buf ∧ (scanLoop rom buf scn).2 = spansOf rom buf := by
  simp only [Scanner.isClear, Bool.and_eq_true, beq_iff_eq] at hclear
  obtain ⟨⟨⟨hs, hpos⟩, -⟩, hout⟩ := hclear
  obtain ⟨hframes, hspans⟩ := scanLoop_toFind rom buf scn
  rw [toFind_of_start rom hs hpos] at hframes hspans
  exact ⟨by rw [hframes, hout, List.nil_append]; rfl, hspans⟩

/-- Over a valid image FRM.SCAN puts its buffer to the scanner. -/
theorem exec_frmScan_of_check {s : State} (hc : romCheck s.rom = true) (buf : List Byte) :
    exec (.frmScan buf) s = .next (s.scanBuffer buf) :=
  withRom_of_check hc

/-- A buffer put to the scanner leaves the declarative definition's frames and spans on the ports. -/
theorem scansTo_scanBuffer (s : State) (buf : List Byte) :
    ScansTo s (.next (s.scanBuffer buf)) buf (framesOf s.rom buf) (spansOf s.rom buf) := by
  obtain ⟨hframes, hspans⟩ := scanLoop_agrees s.rom buf (scn := Scanner.cleared) (by decide)
  simp only [ScansTo, State.scanBuffer, State.complete, hframes, hspans]

/-- Settles O32: FRM.SCAN runs the machine from the cleared scanner, which agrees with the declarative definition. -/
theorem frmScanGivesTheFramesOfTheShapeMatches : Obligations.FrmScanGivesTheFramesOfTheShapeMatches := by
  intro buf s hc
  refine ⟨hasCode_of_encode rfl, ?_⟩
  rw [exec_frmScan_of_check hc]; exact scansTo_scanBuffer s buf

end Machine
end Sys2Proof

/-! PROOF. The error kinds (60_exceptions.md R214): of the five effects a row can have, raising a kind is the only one that
leaves it on the `err` port, and O48 from it. -/

namespace Sys2Proof
namespace Machine

/-- Only raising a kind shows that kind on `err`: the three effects that give a result show OK there, and a refusal has no
next state. -/
theorem Effect.eq_raise_of_err {e : Effect} {s t : State} {k : ErrKind} (hnext : e.on s = .next t)
    (herr : t.err = some (.kind k)) : e = .raise k := by
  cases e with
  | refuse r => cases hnext
  | complete r => cases hnext; cases herr
  | raise k' => cases hnext; cases herr; rfl
  | putAscii bs => cases hnext; cases herr
  | scan buf => cases hnext; cases herr

/-- Settles O48: a row that ends with an error kind has the effect of raising it, which writes the ports alone. -/
theorem anErrorChangesNoState : Obligations.AnErrorChangesNoState := by
  intro i s t k hnext herr
  obtain ⟨e, he⟩ := exec_romDetermined i s.rom
  have heff : exec i s = e.on s := he s rfl
  obtain rfl : e = .raise k := Effect.eq_raise_of_err (heff ▸ hnext) herr
  rw [heff]
  exact raises_raise s k

end Machine
end Sys2Proof

/-! PROOF. Unit SCN, a buffer in two parts (46_frame_scanner.md sections 3 and 6): the machine over one part and then the other, the
candidate that the first part leaves, and O33 and O37 from them. -/

namespace Sys2Proof
namespace Machine

/-! The registers after the bytes of a buffer. -/

section Registers

variable (rom : Rom)

theorem scanLoop_cons_fst (c : Byte) (rest : List Byte) (scn : Scanner) :
    (scanLoop rom (c :: rest) scn).1 = (scanLoop rom rest (scanByte rom scn c).1).1 := rfl

theorem scanLoop_append_fst (a b : List Byte) (scn : Scanner) :
    (scanLoop rom (a ++ b) scn).1 = (scanLoop rom b (scanLoop rom a scn).1).1 := by
  induction a generalizing scn with
  | nil => rfl
  | cons c a ih => rw [List.cons_append, scanLoop_cons_fst, ih, scanLoop_cons_fst]

/-- One pass for each byte (R184). -/
theorem scanLoop_pos (buf : List Byte) (scn : Scanner) : (scanLoop rom buf scn).1.pos = scn.pos + buf.length := by
  induction buf generalizing scn with
  | nil => rfl
  | cons c rest ih =>
    have hpos : (scanByte rom scn c).1.pos = scn.pos + 1 := rfl
    rw [scanLoop_cons_fst, ih, hpos, List.length_cons]; omega

/-- What is to be found in a buffer is what its first part completes, then what is to be found after that part. -/
theorem toFind_append (a b : List Byte) (scn : Scanner) :
    toFind rom scn (a ++ b) = toFind rom scn a ++ toFind rom (scanLoop rom a scn).1 b := by
  induction a generalizing scn with
  | nil => rfl
  | cons c a ih => rw [List.cons_append, toFind_cons, ih, toFind_cons, scanLoop_cons_fst, List.append_assoc]

end Registers

/-- In DN the registers hold the match that a `';'` completes. -/
theorem held_mem_toFind (rom : Rom) {scn : Scanner} (hs : scn.state = .dn) :
    scn.held [] ∈ toFind rom scn [Bits.semicolon] := by
  rw [toFind, pending_of_completes (completes_iff.mpr ⟨hs, rfl⟩)]
  exact List.mem_append_left _ (List.mem_singleton.mpr rfl)

/-- Settles O33: the outputs are `scanLoop_agrees`; in DN the match is the one that the buffer with a `';'` after it still has
to give. -/
theorem tokenizerAgreesWithShapeMatches : Obligations.TokenizerAgreesWithShapeMatches := by
  intro rom buf scn hclear
  obtain ⟨hout, hspans⟩ := scanLoop_agrees rom buf hclear
  simp only [Scanner.isClear, Bool.and_eq_true, beq_iff_eq] at hclear
  obtain ⟨⟨⟨hs, hpos⟩, -⟩, -⟩ := hclear
  have hend : (scanLoop rom buf scn).1.pos = buf.length := by rw [scanLoop_pos, hpos, Nat.zero_add]
  refine ⟨hout, hspans, hend, fun hdn => ⟨(scanLoop rom buf scn).1.held [], ?_, ?_⟩⟩
  · rw [← toFind_of_start rom hs hpos, toFind_append]
    exact List.mem_append_right _ (held_mem_toFind rom hdn)
  · simp [Scanner.held, hend]

/-! The place of a candidate: it begins before the byte in hand, and a match of it ends after. -/

section Place

variable {rom : Rom} {scn : Scanner} {c : Byte}

/-- Only a `':'` writes `scn.start` (R184). -/
theorem scanByte_start (rom : Rom) (scn : Scanner) (hc : c ≠ Bits.colon) : (scanByte rom scn c).1.start = scn.start := by
  have hrestart : (restart scn c).start = scn.start := by rw [restart_of_ne_colon hc]
  cases hs : scn.state with
  | idle => simp only [scanByte, scanAct, hs, hrestart]
  | dn =>
    simp only [scanByte, scanAct, hs]
    split
    · rfl
    · split
      · rfl
      · exact hrestart
  | _ =>
    simp only [scanByte, scanAct, hs]
    split <;> simp only [hrestart]

/-- In IDLE only a `':'` begins a candidate. -/
theorem scanByte_idle (hs : scn.state = .idle) (hc : c ≠ Bits.colon) : (scanByte rom scn c).1.state = .idle := by
  simp only [scanByte, scanAct, hs, restart_of_ne_colon hc]

/-- A `';'` leaves no candidate: it completes a match, or fits no state. -/
theorem scanByte_semicolon_state (rom : Rom) (scn : Scanner) : (scanByte rom scn Bits.semicolon).1.state = .idle := by
  have hrestart : (restart scn Bits.semicolon).state = .idle := by rw [restart_of_ne_colon (by decide)]
  have hS : Bits.semicolon ≠ Bits.charS := by decide
  have hmode : rtrOfMode Bits.semicolon = none := by decide
  cases hs : scn.state with
  | dn => simp only [scanByte, scanAct, hs, Bits.hexval_semicolon, if_true, finishMatch]
  | _ => simp only [scanByte, scanAct, hs, Bits.hexval_semicolon, hmode, if_neg hS, hrestart]

/-- The registers' invariant between two bytes: a candidate began before the byte in hand. -/
def Scanner.Placed (scn : Scanner) : Prop := scn.state ≠ .idle → scn.start < scn.pos

theorem scanByte_placed (h : scn.Placed) : (scanByte rom scn c).1.Placed := by
  have hpos : (scanByte rom scn c).1.pos = scn.pos + 1 := rfl
  intro hnot
  by_cases hc : c = Bits.colon
  · subst hc
    rw [scanByte, scanAct_colon]
    exact Nat.lt_succ_self _
  · have hbefore : scn.state ≠ .idle := fun hs => hnot (scanByte_idle hs hc)
    rw [scanByte_start rom scn hc, hpos]
    exact Nat.lt_succ_of_lt (h hbefore)

theorem scanLoop_placed {buf : List Byte} (h : scn.Placed) : (scanLoop rom buf scn).1.Placed := by
  induction buf generalizing scn with
  | nil => exact h
  | cons c rest ih => rw [scanLoop_cons_fst]; exact ih (scanByte_placed h)

theorem cleared_placed : Scanner.cleared.Placed := fun h => absurd rfl h

/-- The match that a candidate becomes begins where the candidate does and ends beyond the bytes read. -/
theorem pending_bounds {m : ShapeMatch} {rest : List Byte} (h : pending rom rest scn = some m) :
    m.start = scn.start ∧ scn.pos < m.stop := by
  induction rest generalizing scn with
  | nil => cases h
  | cons c rest ih =>
    have hc : c ≠ Bits.colon := by rintro rfl; rw [pending_colon] at h; cases h
    by_cases hcomp : scn.completes c = true
    · rw [pending_of_completes hcomp, Option.some_inj] at h
      subst h
      exact ⟨rfl, Nat.lt_succ_self _⟩
    · rw [pending_of_not_completes hc hcomp] at h
      obtain ⟨hstart, hstop⟩ := ih h
      have hpos : (scanByte rom scn c).1.pos = scn.pos + 1 := rfl
      exact ⟨by rw [hstart, scanByte_start rom scn hc], by omega⟩

end Place

/-! The frames do not depend on where in a buffer a match stands. -/

/-- The frames that shape matches emit, in order (R180). -/
def framesEmitted (rom : Rom) (ms : List ShapeMatch) : List Frame := ms.flatMap fun m => emitted (m.emit rom)

theorem framesOf_eq (rom : Rom) (buf : List Byte) : framesOf rom buf = framesEmitted rom (shapeMatches buf) := rfl

theorem framesEmitted_append (rom : Rom) (ms ns : List ShapeMatch) :
    framesEmitted rom (ms ++ ns) = framesEmitted rom ms ++ framesEmitted rom ns := List.flatMap_append

/-- No match begins inside a match (R182), so the search may go on with the next byte. -/
theorem shapeMatchesFrom_cons (at0 : Nat) (c : Byte) (rest : List Byte) :
    shapeMatchesFrom at0 0 (c :: rest) = (matchAt at0 (c :: rest)).toList ++ shapeMatchesFrom (at0 + 1) 0 rest := by
  by_cases hc : c = Bits.colon
  · subst hc
    rw [shapeMatchesFrom_colon [] (scn := { Scanner.cleared with state := .colon, start := at0, pos := at0 + 1 }) rfl rfl,
      pending_eq_matchAt rfl rfl]
  · rw [shapeMatchesFrom_of_ne_colon hc, matchAt_of_ne_colon hc]; rfl

theorem matchAt_emit (rom : Rom) (at0 at1 : Nat) (buf : List Byte) :
    framesEmitted rom (matchAt at0 buf).toList = framesEmitted rom (matchAt at1 buf).toList := by
  unfold matchAt
  split
  · split
    · split <;> rfl
    · rfl
  · rfl

theorem framesEmitted_shapeMatchesFrom (rom : Rom) (at0 at1 : Nat) (buf : List Byte) :
    framesEmitted rom (shapeMatchesFrom at0 0 buf) = framesEmitted rom (shapeMatchesFrom at1 0 buf) := by
  induction buf generalizing at0 at1 with
  | nil => rfl
  | cons c rest ih =>
    rw [shapeMatchesFrom_cons, shapeMatchesFrom_cons, framesEmitted_append, framesEmitted_append,
      matchAt_emit rom at0 at1, ih (at0 + 1) (at1 + 1)]

/-- The candidate that the first part of a buffer leaves in the registers is all that the two parts have in common. -/
theorem framesOf_append (rom : Rom) (a b : List Byte) :
    framesOf rom (a ++ b) = framesOf rom a ++
      framesEmitted rom (pending rom b (scanLoop rom a Scanner.cleared).1).toList ++ framesOf rom b := by
  have hstart (buf : List Byte) : toFind rom Scanner.cleared buf = shapeMatches buf := toFind_of_start rom rfl rfl buf
  rw [framesOf_eq, ← hstart, toFind_append, hstart, toFind, framesEmitted_append, framesEmitted_append,
    framesEmitted_shapeMatchesFrom rom _ 0, List.append_assoc]
  rfl

theorem framesOf_append_of_not_pending {rom : Rom} {a b : List Byte}
    (h : pending rom b (scanLoop rom a Scanner.cleared).1 = none) :
    framesOf rom (a ++ b) = framesOf rom a ++ framesOf rom b := by
  rw [framesOf_append, h, Option.toList_none]
  exact congrArg (· ++ framesOf rom b) (List.append_nil _)

theorem framesOf_append_of_idle {rom : Rom} {a b : List Byte} (h : (scanLoop rom a Scanner.cleared).1.state = .idle) :
    framesOf rom (a ++ b) = framesOf rom a ++ framesOf rom b :=
  framesOf_append_of_not_pending (pending_idle h)

/-- A candidate that becomes a match straddles the boundary. -/
theorem pending_straddles {rom : Rom} {a b : List Byte} {m : ShapeMatch}
    (h : pending rom b (scanLoop rom a Scanner.cleared).1 = some m) :
    m ∈ shapeMatches (a ++ b) ∧ m.start < a.length ∧ a.length < m.stop := by
  have hpos : (scanLoop rom a Scanner.cleared).1.pos = a.length := (scanLoop_pos rom a _).trans (Nat.zero_add _)
  have hcandidate : (scanLoop rom a Scanner.cleared).1.state ≠ .idle := fun hs => by
    rw [pending_idle hs] at h; cases h
  have hplaced := scanLoop_placed (rom := rom) (buf := a) cleared_placed hcandidate
  obtain ⟨hstart, hstop⟩ := pending_bounds h
  refine ⟨?_, by omega, by omega⟩
  rw [← toFind_of_start rom (scn := Scanner.cleared) rfl rfl, toFind_append]
  exact List.mem_append_right _ (by simp [toFind, h])

/-- The frames a scan leaves on `frame_out`. -/
theorem scanBuffer_frames (s : State) (buf : List Byte) : (s.scanBuffer buf).frameOut = framesOf s.rom buf :=
  (scanLoop_agrees s.rom buf (scn := Scanner.cleared) (by decide)).1

/-- Settles O37: by either hypothesis the first part leaves no candidate that the second completes. -/
theorem scanDistributesOverConcatenation : Obligations.ScanDistributesOverConcatenation := by
  intro a b s hc hsplit
  refine ⟨_, _, _, exec_frmScan_of_check hc a, exec_frmScan_of_check hc b, exec_frmScan_of_check hc (a ++ b), ?_⟩
  simp only [scanBuffer_frames]
  rcases hsplit with hclean | hidle
  · apply framesOf_append_of_not_pending
    cases hm : pending s.rom b (scanLoop s.rom a Scanner.cleared).1 with
    | none => rfl
    | some m =>
      obtain ⟨hmem, hstraddles⟩ := pending_straddles hm
      exact absurd hstraddles (hclean m hmem)
  · exact framesOf_append_of_idle hidle

end Machine
end Sys2Proof

/-! PROOF. Unit SCN, the bytes of a shape match (46_frame_scanner.md section 2): a match is a place that spells the shape, a search
finds every such place, and O34 from it. -/

namespace Sys2Proof
namespace Machine

/-! The bytes a match stands for. -/

/-- The bytes `w` are the shape of R181 with the match's digits and mode. -/
def ShapeMatch.Spells (m : ShapeMatch) (w : List Byte) : Prop :=
  ∃ x0 x1 x2 x3 ds,
    w = [Bits.colon, Bits.charS, x0, x1, x2, x3, modeChar m.rtr] ++ ds ++ [Bits.semicolon] ∧
      [x0, x1, x2, x3].map Bits.hexval = [some m.d0, some m.d1, some m.d2, some m.d3] ∧
      ds.map Bits.hexval = m.dg.map some ∧ m.dg ≠ []

/-- The mode bit is the one of its character (R57, R184). -/
theorem rtrOfMode_eq_some_iff {c : Byte} {r : Bool} : rtrOfMode c = some r ↔ c = modeChar r := by
  have hNR : Bits.charR ≠ Bits.charN := by decide
  constructor
  · intro h
    unfold rtrOfMode at h
    split at h
    · cases h; assumption
    · split at h
      · cases h; assumption
      · cases h
  · rintro rfl
    cases r with
    | false => exact if_pos rfl
    | true => exact (if_neg hNR).trans (if_pos rfl)

/-- The run of digits a sequence begins with are its first bytes, and the rest are the others (R181). -/
theorem digitRun_spec (buf : List Byte) :
    ∃ ds, buf = ds ++ (digitRun buf).2 ∧ ds.map Bits.hexval = (digitRun buf).1.map some := by
  induction buf with
  | nil => exact ⟨[], rfl, rfl⟩
  | cons c rest ih =>
    cases hd : Bits.hexval c with
    | none => exact ⟨[], by simp [digitRun_of_not_digit hd]⟩
    | some d =>
      obtain ⟨ds, hbuf, hds⟩ := ih
      refine ⟨c :: ds, ?_, ?_⟩
      · rw [digitRun_of_digit hd, List.cons_append, ← hbuf]
      · rw [digitRun_of_digit hd, List.map_cons, List.map_cons, hd, hds]

/-- Digits with a byte after them that is none are a whole run. -/
theorem digitRun_append {ds : List Byte} {dg : List Nibble} (h : ds.map Bits.hexval = dg.map some) {e : Byte}
    (he : Bits.hexval e = none) (tail : List Byte) : digitRun (ds ++ e :: tail) = (dg, e :: tail) := by
  induction ds generalizing dg with
  | nil =>
    obtain rfl : dg = [] := by simpa using h.symm
    exact digitRun_of_not_digit he tail
  | cons c ds ih =>
    cases dg with
    | nil => cases h
    | cons d dg =>
      obtain ⟨hc, hds⟩ := List.cons.inj h
      rw [List.cons_append, digitRun_of_digit hc, ih hds]

namespace ShapeMatch.Spells

variable {m : ShapeMatch} {w : List Byte}

theorem length (h : m.Spells w) : w.length = 8 + m.dg.length := by
  obtain ⟨x0, x1, x2, x3, ds, rfl, -, hds, -⟩ := h
  have hlen : ds.length = m.dg.length := by simpa using congrArg List.length hds
  simp [hlen]; omega

theorem digits_pos (h : m.Spells w) : 1 ≤ m.dg.length := by
  obtain ⟨x0, x1, x2, x3, ds, -, -, -, hne⟩ := h
  exact List.length_pos_iff.mpr hne

/-- The first byte is a `':'` and no other byte is. -/
theorem colon_first (h : m.Spells w) : ∃ rest, w = Bits.colon :: rest ∧ ∀ x ∈ rest, x ≠ Bits.colon := by
  obtain ⟨x0, x1, x2, x3, ds, rfl, hxs, hds, -⟩ := h
  refine ⟨Bits.charS :: x0 :: x1 :: x2 :: x3 :: modeChar m.rtr :: (ds ++ [Bits.semicolon]), by simp, fun x hx => ?_⟩
  have hkind : x = Bits.charS ∨ x = modeChar m.rtr ∨ x = Bits.semicolon ∨ x ∈ [x0, x1, x2, x3] ++ ds := by
    simp at hx ⊢; tauto
  rcases hkind with rfl | rfl | rfl | hdigit
  · decide
  · cases m.rtr <;> decide
  · decide
  · have hval : Bits.hexval x ∈ ([m.d0, m.d1, m.d2, m.d3] ++ m.dg).map some := by
      rw [List.map_append, List.map_cons, List.map_cons, List.map_cons, List.map_cons, List.map_nil, ← hxs, ← hds,
        ← List.map_append]
      exact List.mem_map_of_mem hdigit
    obtain ⟨d, -, hd⟩ := List.mem_map.mp hval
    exact Bits.ne_colon_of_hexval hd.symm

end ShapeMatch.Spells
/-- A match begins at a place exactly when the bytes there spell the shape with its digits (R181). -/
theorem matchAt_eq_some_iff {at0 : Nat} {buf : List Byte} {m : ShapeMatch} :
    matchAt at0 buf = some m ↔
      m.start = at0 ∧ m.stop = at0 + 8 + m.dg.length ∧ ∃ w tail, buf = w ++ tail ∧ m.Spells w := by
  constructor
  · intro h
    rcases buf with _ | ⟨c, _ | ⟨s, _ | ⟨x0, _ | ⟨x1, _ | ⟨x2, _ | ⟨x3, _ | ⟨mode, rest⟩⟩⟩⟩⟩⟩⟩
    case cons.cons.cons.cons.cons.cons.cons =>
      obtain rfl : c = Bits.colon := by
        by_contra hc
        rw [matchAt_of_ne_colon hc] at h; cases h
      rw [matchAt_colon_cons] at h
      simp only [Option.ite_none_right_eq_some, Option.bind_eq_some_iff, Option.some_inj] at h
      obtain ⟨rfl, d0, h0, d1, h1, d2, h2, d3, h3, rtr, hmode, e, he, ⟨hne, rfl⟩, rfl⟩ := h
      obtain ⟨ds, hrest, hds⟩ := digitRun_spec rest
      obtain ⟨tail, htail⟩ := List.head?_eq_some_iff.mp he
      rw [htail] at hrest
      refine ⟨rfl, rfl, _, tail, ?_, x0, x1, x2, x3, ds, rfl, by simp [h0, h1, h2, h3], hds, hne⟩
      rw [rtrOfMode_eq_some_iff.mp hmode]
      simpa using hrest
    all_goals cases h
  · rintro ⟨rfl, hstop, w, tail, rfl, x0, x1, x2, x3, ds, rfl, hxs, hds, hne⟩
    obtain ⟨h0, h1, h2, h3⟩ : Bits.hexval x0 = some m.d0 ∧ Bits.hexval x1 = some m.d1 ∧ Bits.hexval x2 = some m.d2 ∧
        Bits.hexval x3 = some m.d3 := by simpa using hxs
    simp only [List.cons_append, List.nil_append, List.append_assoc, matchAt_colon_cons, if_true, h0, h1, h2, h3,
      rtrOfMode_eq_some_iff.mpr rfl, digitRun_append hds Bits.hexval_semicolon, Option.bind_some, List.head?_cons]
    rw [if_pos ⟨hne, trivial⟩, ← hstop]

/-- A search finds the matches of all places, and no others. -/
theorem mem_shapeMatchesFrom_iff {at0 : Nat} {buf : List Byte} {m : ShapeMatch} :
    m ∈ shapeMatchesFrom at0 0 buf ↔ ∃ i < buf.length, matchAt (at0 + i) (buf.drop i) = some m := by
  induction buf generalizing at0 with
  | nil => simp [shapeMatchesFrom]
  | cons c rest ih =>
    rw [shapeMatchesFrom_cons, List.mem_append, Option.mem_toList, ih]
    constructor
    · rintro (h | ⟨i, hi, h⟩)
      · exact ⟨0, Nat.succ_pos _, h⟩
      · refine ⟨i + 1, Nat.succ_lt_succ hi, ?_⟩
        rwa [Nat.add_comm i 1, ← Nat.add_assoc, Nat.add_comm 1 i, List.drop_succ_cons]
    · rintro ⟨i, hi, h⟩
      cases i with
      | zero => exact .inl h
      | succ i =>
        rw [Nat.add_comm i 1, ← Nat.add_assoc, Nat.add_comm 1 i, List.drop_succ_cons] at h
        exact .inr ⟨i, Nat.lt_of_succ_lt_succ hi, h⟩

/-- The shape matches of a buffer are the places that spell the shape: before, the match and after it. -/
theorem mem_shapeMatches_iff {buf : List Byte} {m : ShapeMatch} :
    m ∈ shapeMatches buf ↔
      ∃ pre w tail, buf = pre ++ w ++ tail ∧ m.Spells w ∧ m.start = pre.length ∧ m.stop = pre.length + w.length := by
  rw [shapeMatches, mem_shapeMatchesFrom_iff]
  constructor
  · rintro ⟨i, hi, h⟩
    obtain ⟨hstart, hstop, w, tail, hbuf, hw⟩ := matchAt_eq_some_iff.mp h
    have hpre : (buf.take i).length = i := List.length_take_of_le hi.le
    refine ⟨buf.take i, w, tail, ?_, hw, ?_, ?_⟩
    · rw [List.append_assoc, ← hbuf, List.take_append_drop]
    · omega
    · rw [hw.length]; omega
  · rintro ⟨pre, w, tail, rfl, hw, hstart, hstop⟩
    have hlen := hw.length
    refine ⟨pre.length, by simp; omega, matchAt_eq_some_iff.mpr ⟨by omega, by omega, w, tail, ?_, hw⟩⟩
    rw [List.append_assoc, List.drop_left]

/-! The grammar of Safety.lean. -/

/-- The digits of bytes that are all digits. -/
theorem exists_digits {ds : List Byte} (h : ∀ x ∈ ds, Bits.ishex x = true) :
    ∃ dg : List Nibble, ds.map Bits.hexval = dg.map some := by
  induction ds with
  | nil => exact ⟨[], rfl⟩
  | cons x ds ih =>
    obtain ⟨hx, hds⟩ := List.forall_mem_cons.mp h
    obtain ⟨d, hd⟩ := Option.isSome_iff_exists.mp hx
    obtain ⟨dg, hdg⟩ := ih hds
    exact ⟨d :: dg, by rw [List.map_cons, List.map_cons, hd, hdg]⟩

theorem ishex_of_digits {ds : List Byte} {dg : List Nibble} (h : ds.map Bits.hexval = dg.map some) :
    ∀ x ∈ ds, Bits.ishex x = true := by
  intro x hx
  have hval : Bits.hexval x ∈ dg.map some := h ▸ List.mem_map_of_mem hx
  obtain ⟨d, -, hd⟩ := List.mem_map.mp hval
  rw [Bits.ishex, ← hd]; rfl

/-- Bytes have the shape exactly when a match spells them, at whatever place. -/
theorem isShape_iff {w : List Byte} (start : Nat) :
    IsShape w ↔ ∃ m : ShapeMatch, m.Spells w ∧ m.start = start ∧ m.stop = start + w.length := by
  constructor
  · rintro ⟨x0, x1, x2, x3, mode, ds, rfl, hxs, hmode, hne, hds⟩
    simp only [List.forall_mem_cons, Bits.ishex, Option.isSome_iff_exists] at hxs
    obtain ⟨⟨d0, h0⟩, ⟨d1, h1⟩, ⟨d2, h2⟩, ⟨d3, h3⟩, -⟩ := hxs
    obtain ⟨dg, hdg⟩ := exists_digits hds
    obtain ⟨r, rfl⟩ : ∃ r, mode = modeChar r := hmode.elim (⟨false, ·⟩) (⟨true, ·⟩)
    refine ⟨⟨start, _, d0, d1, d2, d3, r, dg⟩, ⟨x0, x1, x2, x3, ds, rfl, by simp [h0, h1, h2, h3], hdg, ?_⟩, rfl, rfl⟩
    rintro rfl
    exact hne (by simpa using hdg)
  · rintro ⟨m, ⟨x0, x1, x2, x3, ds, rfl, hxs, hds, hne⟩, -, -⟩
    refine ⟨x0, x1, x2, x3, modeChar m.rtr, ds, rfl, ?_, ?_, ?_, ishex_of_digits hds⟩
    · exact ishex_of_digits (dg := [m.d0, m.d1, m.d2, m.d3]) hxs
    · cases m.rtr
      · exact .inl rfl
      · exact .inr rfl
    · rintro rfl
      exact hne (by simpa using hds.symm)

/-- A slice of a buffer, the bytes before it and the bytes after it. -/
theorem slice_append (pre w tail : List Byte) : slice (pre ++ w ++ tail) pre.length (pre.length + w.length) = w := by
  rw [slice, List.append_assoc, List.drop_left, Nat.add_sub_cancel_left, List.take_left]

theorem eq_append_slice {buf : List Byte} {s e : Nat} (hs : s ≤ e) (he : e ≤ buf.length) :
    ∃ pre tail, buf = pre ++ slice buf s e ++ tail ∧ pre.length = s ∧ (slice buf s e).length = e - s := by
  refine ⟨buf.take s, buf.drop e, ?_, List.length_take_of_le (hs.trans he), ?_⟩
  · have hdrop : buf.drop e = (buf.drop s).drop (e - s) := by rw [List.drop_drop]; congr 1; omega
    rw [slice, hdrop, List.append_assoc, List.take_append_drop, List.take_append_drop]
  · rw [slice, List.length_take, List.length_drop]; omega

/-- A place is a match exactly when its bytes have the shape. -/
theorem exists_shapeMatch_iff (buf : List Byte) (s e : Nat) :
    (∃ m ∈ shapeMatches buf, m.start = s ∧ m.stop = e) ↔ s < e ∧ e ≤ buf.length ∧ IsShape (slice buf s e) := by
  constructor
  · rintro ⟨m, hm, rfl, rfl⟩
    obtain ⟨pre, w, tail, rfl, hw, hstart, hstop⟩ := mem_shapeMatches_iff.mp hm
    have hlen := hw.length
    rw [hstart, hstop, slice_append]
    exact ⟨by omega, by simp, (isShape_iff _).mpr ⟨m, hw, hstart, hstop⟩⟩
  · rintro ⟨hlt, hle, hshape⟩
    obtain ⟨pre, tail, hbuf, hpre, hlen⟩ := eq_append_slice hlt.le hle
    obtain ⟨m, hw, hstart, hstop⟩ := (isShape_iff pre.length).mp hshape
    exact ⟨m, mem_shapeMatches_iff.mpr ⟨pre, _, tail, hbuf, hw, hstart, hstop⟩, by omega, by omega⟩

/-- A match's digits and mode stand at their places in the buffer. -/
theorem digits_of_mem_shapeMatches {buf : List Byte} {m : ShapeMatch} (h : m ∈ shapeMatches buf) :
    (slice buf (m.start + 2) (m.start + 6)).map Bits.hexval = [some m.d0, some m.d1, some m.d2, some m.d3] ∧
      buf[m.start + 6]? = some (modeChar m.rtr) ∧
      (slice buf (m.start + 7) (m.stop - 1)).map Bits.hexval = m.dg.map some := by
  obtain ⟨pre, w, tail, rfl, hw, hstart, hstop⟩ := mem_shapeMatches_iff.mp h
  have hlen := hw.length
  obtain ⟨x0, x1, x2, x3, ds, rfl, hxs, hds, -⟩ := hw
  have hdslen : ds.length = m.dg.length := by simpa using congrArg List.length hds
  have hhead : slice (pre ++ ([Bits.colon, Bits.charS, x0, x1, x2, x3, modeChar m.rtr] ++ ds ++ [Bits.semicolon]) ++ tail)
      (m.start + 2) (m.start + 6) = [x0, x1, x2, x3] := by
    have := slice_append (pre ++ [Bits.colon, Bits.charS]) [x0, x1, x2, x3] (modeChar m.rtr :: ds ++ Bits.semicolon :: tail)
    simpa [hstart] using this
  have hbody : slice (pre ++ ([Bits.colon, Bits.charS, x0, x1, x2, x3, modeChar m.rtr] ++ ds ++ [Bits.semicolon]) ++ tail)
      (m.start + 7) (m.stop - 1) = ds := by
    have hend : m.stop - 1 = pre.length + 7 + ds.length := by omega
    have := slice_append (pre ++ [Bits.colon, Bits.charS, x0, x1, x2, x3, modeChar m.rtr]) ds (Bits.semicolon :: tail)
    simpa [hstart, hend] using this
  refine ⟨by rw [hhead, hxs], ?_, by rw [hbody, hds]⟩
  simp [hstart]

/-- No match begins inside another: only its first byte is a `':'` (R182). -/
theorem pairwise_shapeMatchesFrom (at0 : Nat) (buf : List Byte) :
    (shapeMatchesFrom at0 0 buf).Pairwise fun m1 m2 => m1.stop ≤ m2.start := by
  induction buf generalizing at0 with
  | nil => exact List.Pairwise.nil
  | cons c rest ih =>
    rw [shapeMatchesFrom_cons, List.pairwise_append]
    refine ⟨by cases matchAt at0 (c :: rest) <;> simp, ih (at0 + 1), fun m1 hm1 m2 hm2 => ?_⟩
    rw [Option.mem_toList] at hm1
    obtain ⟨-, hstop, w, tail, hbuf, hw⟩ := matchAt_eq_some_iff.mp hm1
    obtain ⟨i, hi, hm2⟩ := mem_shapeMatchesFrom_iff.mp hm2
    obtain ⟨hstart, -, w2, tail2, hbuf2, hw2⟩ := matchAt_eq_some_iff.mp hm2
    have hlen := hw.length
    obtain ⟨w', rfl, hclean⟩ := hw.colon_first
    obtain ⟨w2', rfl, -⟩ := hw2.colon_first
    obtain rfl : rest = w' ++ tail := (List.cons.inj hbuf).2
    by_contra hlt
    have hin : i < w'.length := by simp at hlen; omega
    have hbyte : w'[i]? = some Bits.colon := by
      have : (w' ++ tail)[i]? = some Bits.colon := by
        rw [← List.head?_drop, hbuf2]; rfl
      rwa [List.getElem?_append_left hin] at this
    exact hclean _ (List.mem_of_getElem? hbyte) rfl

/-- Settles O34: membership in a search is a place that spells the shape, and the grammar is what a match spells. -/
theorem shapeMatchesAreAllTheShapes : Obligations.ShapeMatchesAreAllTheShapes := by
  intro buf
  exact ⟨exists_shapeMatch_iff buf, fun m hm => digits_of_mem_shapeMatches hm, pairwise_shapeMatchesFrom 0 buf⟩

end Machine
end Sys2Proof

/-! PROOF. Units SER and SCN, frames and their renderings (45_frame_serializer.md section 2, 46_frame_scanner.md section 6): how long
a rendering is, which digits Emit drops, what a scan of a rendering gives, and O30, O36, O39 and O40 from them. -/

namespace Sys2Proof
namespace Bits

/-- An even number of digits pairs up. -/
theorem pairNibbles_of_even {ds : List Nibble} (heven : ds.length % 2 = 0) : ∃ bs, pairNibbles ds = some bs := by
  induction ds using pairNibbles.induct with
  | case1 => exact ⟨[], rfl⟩
  | case2 => simp at heven
  | case3 hi lo ds ih =>
    obtain ⟨bs, hbs⟩ := ih (by simp at heven; omega)
    exact ⟨ofNibbles hi lo :: bs, by rw [pairNibbles, hbs]; rfl⟩

/-- The digits that bytes are written with read back as their nibbles (R61, R62). -/
theorem map_hexval_hexBytes (bs : List Byte) :
    (hexBytes bs).map hexval = (bs.flatMap fun b => [hiNibble b, loNibble b]).map some := by
  induction bs with
  | nil => rfl
  | cons b bs ih =>
    have h : hexBytes (b :: bs) = hex2 b ++ hexBytes bs := rfl
    rw [h, List.map_append, ih, List.flatMap_cons, List.map_append]
    simp [hex2]

end Bits

namespace Machine

/-! Emit (R186, R188): the digits of a frame. -/

/-- A match that gives a frame has the digits of a message of the ROM, two for each byte. -/
theorem emit_eq_ok {rom : Rom} {d0 d1 d2 d3 : Nibble} {rtr : Bool} {dg : List Nibble} {f : Frame}
    (h : emit rom d0 d1 d2 d3 rtr dg = .ok f) :
    ∃ m, f.message = some m ∧ Bits.pairNibbles dg = some m.bytes ∧ m.lengthOk = true ∧ romPresent rom m.op = true := by
  unfold emit at h
  split at h
  · cases h
  · split at h
    · cases h
    next m hm =>
      cases h
      obtain ⟨hbytes, hlen, hpresent⟩ := messageOf_ok hm
      exact ⟨m, rfl, hbytes ▸ ‹_›, hlen, hpresent⟩

/-- Bytes that no message is as long as are dropped by one of the codec's two tests (R216, R217). -/
theorem messageOf_of_long {rom : Rom} {bs : List Byte} (hlong : 8 < bs.length) :
    messageOf rom bs = .error .unknownOpcode ∨ messageOf rom bs = .error .payloadLengthMismatch := by
  cases bs with
  | nil => simp at hlong
  | cons v p =>
    have hle := Bits.payloadLen_le v
    rw [List.length_cons] at hlong
    by_cases hp : romPresent rom v = true
    · right
      rw [messageOf_cons_of_present hp]
      exact if_neg (by omega)
    · exact .inl (messageOf_cons_of_absent hp p)

/-- Settles O39: an odd number does not pair up, and more than 16 make more than eight bytes, which no message has. -/
theorem moreThanSixteenDigitsAreDropped : Obligations.MoreThanSixteenDigitsAreDropped := by
  intro rom d0 d1 d2 d3 rtr dg hmany
  refine ⟨emit_of_odd d0 d1 d2 d3 rtr, fun heven => ?_⟩
  obtain ⟨bs, hpair⟩ := Bits.pairNibbles_of_even heven
  have hlen := Bits.pairNibbles_length hpair
  exact (messageOf_of_long (rom := rom) (bs := bs) (by omega)).imp
    (emit_of_codec_error d0 d1 d2 d3 rtr hpair) (emit_of_codec_error d0 d1 d2 d3 rtr hpair)

theorem emitted_of_long (rom : Rom) {m : ShapeMatch} (hmany : 16 < m.dg.length) : emitted (m.emit rom) = [] := by
  obtain ⟨hodd, heven⟩ := moreThanSixteenDigitsAreDropped rom m.d0 m.d1 m.d2 m.d3 m.rtr m.dg hmany
  rcases Nat.mod_two_eq_zero_or_one m.dg.length with h | h
  · rcases heven h with h | h <;> rw [ShapeMatch.emit, h] <;> rfl
  · rw [ShapeMatch.emit, hodd h]; rfl

/-! The lengths of a match (R195). -/

theorem bounds_of_mem_shapeMatches {buf : List Byte} {m : ShapeMatch} (h : m ∈ shapeMatches buf) :
    m.stop = m.start + 8 + m.dg.length ∧ 1 ≤ m.dg.length := by
  obtain ⟨pre, w, tail, -, hw, hstart, hstop⟩ := mem_shapeMatches_iff.mp h
  have hlen := hw.length
  exact ⟨by omega, hw.digits_pos⟩

/-- A match with a single digit gives no frame. -/
theorem two_le_digits_of_emit {rom : Rom} {m : ShapeMatch} {f : Frame} (h : m.emit rom = .ok f) : 2 ≤ m.dg.length := by
  obtain ⟨msg, -, hpair, -⟩ := emit_eq_ok h
  have hlen := Bits.pairNibbles_length hpair
  rw [Message.bytes, List.length_cons] at hlen
  omega

theorem emitted_length_le (rom : Rom) (m : ShapeMatch) : 10 * (emitted (m.emit rom)).length ≤ 8 + m.dg.length := by
  cases h : m.emit rom with
  | error r => exact Nat.zero_le _
  | ok f =>
    have := two_le_digits_of_emit h
    simp only [emitted, List.length_singleton]; omega

/-- Ten bytes are passed for each frame: the search skips the rest of a match, and what it still has to skip is not counted. -/
theorem framesEmitted_length_le (rom : Rom) (at0 skip : Nat) (buf : List Byte) (hskip : skip ≤ buf.length) :
    10 * (framesEmitted rom (shapeMatchesFrom at0 skip buf)).length + skip ≤ buf.length := by
  induction buf generalizing at0 skip with
  | nil => simpa [shapeMatchesFrom, framesEmitted] using hskip
  | cons c rest ih =>
    rw [List.length_cons] at hskip ⊢
    cases skip with
    | succ k =>
      have := ih (at0 + 1) k (by omega)
      rw [shapeMatchesFrom]; omega
    | zero =>
      rw [shapeMatchesFrom]
      cases hm : matchAt at0 (c :: rest) with
      | none =>
        have := ih (at0 + 1) 0 (Nat.zero_le _)
        simp only; omega
      | some m =>
        obtain ⟨hstart, hstop, w, tail, hbuf, hw⟩ := matchAt_eq_some_iff.mp hm
        have hfits : m.stop - at0 ≤ rest.length + 1 := by
          have hlen := congrArg List.length hbuf
          rw [List.length_append, List.length_cons, hw.length] at hlen
          omega
        have hrest := ih (at0 + 1) (m.stop - at0 - 1) (by omega)
        have hfirst := emitted_length_le rom m
        simp only [framesEmitted, List.flatMap_cons, List.length_append] at hrest ⊢
        omega

/-- Settles O40: a match has eight bytes beside its digits, and a frame's digits are at least two. -/
theorem scanIsBoundedByItsInput : Obligations.ScanIsBoundedByItsInput := by
  intro rom buf
  refine ⟨fun m hm => ?_, ?_, (scanLoop_pos rom buf _).trans (Nat.zero_add _)⟩
  · obtain ⟨hstop, hpos⟩ := bounds_of_mem_shapeMatches hm
    refine ⟨by omega, fun hnine => ?_, fun f hf => ?_⟩
    · rw [ShapeMatch.emit, emit_of_odd m.d0 m.d1 m.d2 m.d3 m.rtr (by omega)]; rfl
    · have := two_le_digits_of_emit hf; omega
  · have hten := framesEmitted_length_le rom 0 0 buf (Nat.zero_le _)
    rw [framesOf_eq, shapeMatches]; omega

/-! Renderings (R171, R172, R193). -/

/-- The length of a rendering, of any frame. -/
theorem frameAscii_length (f : Frame) : (frameAscii f).length = 8 + 2 * (messageBytes f).length := by
  simp [frameAscii_eq, Bits.hexBytes_length]; omega

/-- Settles O30: eight bytes stand around the message's digits, two for each byte of its binary form, at most eight bytes. -/
theorem frmEncLength : Obligations.FrmEncLength := by
  intro f s hf
  refine ⟨frameAscii f, ?_, ?_⟩
  · rw [exec_frmEnc_of_messageOk hf]; exact putsAscii_putAscii s _
  · rw [frameAscii_length]
    cases hm : f.message with
    | none => simp [messageBytes, hm]
    | some m =>
      have hlen : m.payload.length = m.op.toNat / 32 := by
        rw [← Message.lengthOk_iff]; simpa only [Frame.messageOk, hm] using hf
      have hop := m.op.isLt
      simp [messageBytes, hm, Message.bytes, hlen]; omega

/-- The bytes an operation puts out are determined. -/
theorem PutsAscii.unique {s : State} {o : Host.Outcome State Fault Refusal} {bs bs' : List Byte}
    (h : PutsAscii s o bs) (h' : PutsAscii s o bs') : bs = bs' := by
  have heq := Host.Outcome.next.inj (Eq.trans (Eq.symm h) h')
  simpa using congrArg State.res heq

theorem carriesMessage_iff {rom : Rom} {f : Frame} :
    Frame.carriesMessage rom f = true ↔ ∃ m, f.message = some m ∧ m.lengthOk = true ∧ romPresent rom m.op = true := by
  rw [Frame.carriesMessage]
  cases f.message <;> simp

theorem messageOk_of_carriesMessage {rom : Rom} {f : Frame} (h : Frame.carriesMessage rom f = true) :
    f.messageOk = true := by
  obtain ⟨m, hm, hlen, -⟩ := carriesMessage_iff.mp h
  rw [Frame.messageOk, hm]
  exact hlen

/-- The match that the rendering of a frame with message `m` is. -/
def renderedMatch (f : Frame) (m : Message) : ShapeMatch where
  start := 0
  stop  := (frameAscii f).length
  d0    := Bits.hiNibble (Bits.highByte f.header)
  d1    := Bits.loNibble (Bits.highByte f.header)
  d2    := Bits.hiNibble (Bits.lowByte f.header)
  d3    := Bits.loNibble (Bits.lowByte f.header)
  rtr   := f.rtr
  dg    := m.bytes.flatMap fun b => [Bits.hiNibble b, Bits.loNibble b]

section Rendering

variable {rom : Rom} {f : Frame} {m : Message}

/-- A rendering spells the shape with the frame's digits and mode. -/
theorem renderedMatch_spells (hm : f.message = some m) : (renderedMatch f m).Spells (frameAscii f) := by
  have hbytes : messageBytes f = m.bytes := by rw [messageBytes, hm]; rfl
  refine ⟨Bits.hexchr (renderedMatch f m).d0, Bits.hexchr (renderedMatch f m).d1, Bits.hexchr (renderedMatch f m).d2,
    Bits.hexchr (renderedMatch f m).d3, Bits.hexBytes m.bytes, ?_, ?_, Bits.map_hexval_hexBytes _,
    by simp [renderedMatch, Message.bytes]⟩
  · rw [frameAscii_eq, hbytes]; rfl
  · simp only [List.map_cons, Bits.hexval_hexchr, List.map_nil]

/-- A rendering's match emits the frame (R186): header, message and mode read back. -/
theorem renderedMatch_emit (hm : f.message = some m) (hlen : m.lengthOk = true) (hp : romPresent rom m.op = true) :
    (renderedMatch f m).emit rom = .ok f := by
  have hdecode : messageOf rom m.bytes = .ok m := by
    rw [Message.bytes, messageOf_cons_of_present hp, newMessage_of_length_eq ((Message.lengthOk_iff m).mp hlen)]
  obtain ⟨header, message, rtr⟩ := f
  obtain rfl : message = some m := hm
  simp only [ShapeMatch.emit, renderedMatch]
  rw [emit_of_message _ _ _ _ _ (Bits.pairNibbles_nibbles m.bytes) hdecode]
  simp

end Rendering

/-- The search passes over bytes that hold no `':'`. -/
theorem shapeMatchesFrom_append_of_no_colon (at0 : Nat) {x : List Byte} (hclean : ∀ b ∈ x, b ≠ Bits.colon) (z : List Byte) :
    shapeMatchesFrom at0 0 (x ++ z) = shapeMatchesFrom (at0 + x.length) 0 z := by
  induction x generalizing at0 with
  | nil => rfl
  | cons b x ih =>
    obtain ⟨hb, hx⟩ := List.forall_mem_cons.mp hclean
    rw [List.cons_append, shapeMatchesFrom_of_ne_colon hb, ih (at0 + 1) hx, List.length_cons, Nat.add_assoc,
      Nat.add_comm 1]

/-- The frames from a `':'` on are those of the match there, if any, and those from the next `':'` on. -/
theorem framesOf_colon_append (rom : Rom) {x : List Byte} (hclean : ∀ b ∈ x, b ≠ Bits.colon) (z : List Byte) :
    framesOf rom (Bits.colon :: x ++ z) =
      framesEmitted rom (matchAt 0 (Bits.colon :: x ++ z)).toList ++ framesOf rom z := by
  rw [framesOf_eq, shapeMatches, List.cons_append, shapeMatchesFrom_cons, shapeMatchesFrom_append_of_no_colon _ hclean,
    framesEmitted_append, framesEmitted_shapeMatchesFrom rom _ 0]
  rfl

/-- Bytes that spell a match give its frame, and then the bytes after them give theirs. -/
theorem framesOf_spelled_append (rom : Rom) {m : ShapeMatch} {w : List Byte} (hw : m.Spells w) (hstart : m.start = 0)
    (hstop : m.stop = w.length) (z : List Byte) : framesOf rom (w ++ z) = emitted (m.emit rom) ++ framesOf rom z := by
  have hmatch : matchAt 0 (w ++ z) = some m := by
    have hlen := hw.length
    exact matchAt_eq_some_iff.mpr ⟨hstart, by omega, w, z, rfl, hw⟩
  obtain ⟨x, rfl, hclean⟩ := hw.colon_first
  rw [framesOf_colon_append rom hclean, hmatch]
  exact congrArg (· ++ framesOf rom z) (List.flatMap_singleton _ _)

/-- The frames of renderings, one after the other, are the frames rendered. -/
theorem framesOf_renderings {rom : Rom} {fs : List Frame} (h : ∀ f ∈ fs, Frame.carriesMessage rom f = true) :
    framesOf rom (fs.flatMap frameAscii) = fs := by
  induction fs with
  | nil => rfl
  | cons f fs ih =>
    obtain ⟨hf, hfs⟩ := List.forall_mem_cons.mp h
    obtain ⟨m, hm, hlen, hp⟩ := carriesMessage_iff.mp hf
    rw [List.flatMap_cons, framesOf_spelled_append rom (renderedMatch_spells hm) rfl rfl, renderedMatch_emit hm hlen hp,
      ih hfs]
    rfl

/-- What FRM.ENC puts out for frames with messages is their wire form. -/
theorem flatMap_render_eq {rom : Rom} {fs : List Frame} {render : Frame → List Byte} {u : State}
    (h : ∀ f ∈ fs, Frame.carriesMessage rom f = true ∧ PutsAscii u (exec (.frmEnc f) u) (render f)) :
    fs.flatMap render = fs.flatMap frameAscii := by
  apply List.flatMap_congr
  intro f hf
  obtain ⟨hcarries, hputs⟩ := h f hf
  rw [exec_frmEnc_of_messageOk (messageOk_of_carriesMessage hcarries)] at hputs
  exact hputs.unique (putsAscii_putAscii u _)

/-- The frames of a scan have messages of the ROM (R187). -/
theorem carriesMessage_of_mem_framesOf {rom : Rom} {buf : List Byte} {f : Frame} (h : f ∈ framesOf rom buf) :
    Frame.carriesMessage rom f = true := by
  obtain ⟨m, -, hf⟩ := List.mem_flatMap.mp h
  cases hm : m.emit rom with
  | error r => rw [hm] at hf; cases hf
  | ok f' =>
    rw [hm] at hf
    obtain rfl : f = f' := List.mem_singleton.mp hf
    obtain ⟨msg, hmsg, -, hlen, hp⟩ := emit_eq_ok hm
    exact carriesMessage_iff.mpr ⟨msg, hmsg, hlen, hp⟩

/-- Settles O36: a scan of renderings gives the frames back, and the frames of a scan are such frames. -/
theorem scanInvertsRendering : Obligations.ScanInvertsRendering := by
  refine ⟨fun fs render s u hc h => ?_, fun buf render s t u hscan h => ?_⟩
  · refine ⟨_, exec_frmScan_of_check hc _, ?_⟩
    rw [flatMap_render_eq h, scanBuffer_res, ← scanBuffer_frameOut, scanBuffer_frames,
      framesOf_renderings fun f hf => (h f hf).1]
  · obtain ⟨hc, rfl⟩ := scanFrames_next hscan
    rw [scanBuffer_frames] at h ⊢
    have hcarries : ∀ f ∈ framesOf s.rom buf, Frame.carriesMessage s.rom f = true :=
      fun f hf => carriesMessage_of_mem_framesOf hf
    refine ⟨_, exec_frmScan_of_check hc _, ?_⟩
    rw [scanBuffer_frames, flatMap_render_eq fun f hf => ⟨hcarries f hf, h f hf⟩, framesOf_renderings hcarries]

end Machine
end Sys2Proof

/-! PROOF. The host's keeping rule (70_reset_and_hazards.md section 3): what it keeps of a read, why the frames of a read and those that
the kept bytes begin are the frames of all the bytes, and O38 from it. -/

namespace Sys2Proof
namespace Machine

/-! What the rule keeps: by the last `':'`, and whether a `';'` follows it. -/

theorem hostKeeps_cons_of_colon_later {c : Byte} {rest : List Byte} (h : Bits.colon ∈ rest) :
    hostKeeps (c :: rest) = hostKeeps rest :=
  if_neg fun hlast => hlast.2 h

theorem hostKeeps_cons_of_ne_colon {c : Byte} {rest : List Byte} (h : c ≠ Bits.colon) :
    hostKeeps (c :: rest) = hostKeeps rest :=
  if_neg fun hlast => h hlast.1

theorem hostKeeps_last_colon {rest : List Byte} (h : Bits.colon ∉ rest) :
    hostKeeps (Bits.colon :: rest) = if Bits.semicolon ∈ rest then [] else Bits.colon :: rest :=
  if_pos ⟨rfl, h⟩

/-- The rule by cases: no `':'` at all, or a last one. -/
theorem hostKeeps_cases (x : List Byte) :
    (Bits.colon ∉ x ∧ hostKeeps x = []) ∨
      ∃ before after, x = before ++ Bits.colon :: after ∧ Bits.colon ∉ after ∧
        hostKeeps x = if Bits.semicolon ∈ after then [] else Bits.colon :: after := by
  induction x with
  | nil => exact .inl ⟨List.not_mem_nil, rfl⟩
  | cons c rest ih =>
    rcases ih with ⟨hnone, hkeeps⟩ | ⟨before, after, rfl, hafter, hkeeps⟩
    · by_cases hc : c = Bits.colon
      · subst hc
        exact .inr ⟨[], rest, rfl, hnone, hostKeeps_last_colon hnone⟩
      · refine .inl ⟨fun hmem => ?_, by rw [hostKeeps_cons_of_ne_colon hc, hkeeps]⟩
        rcases List.mem_cons.mp hmem with h | h
        · exact hc h.symm
        · exact hnone h
    · refine .inr ⟨c :: before, after, rfl, hafter, ?_⟩
      rw [hostKeeps_cons_of_colon_later (by simp), hkeeps]

/-- Kept bytes are a candidate: a `':'` with neither `':'` nor `';'` after it. -/
theorem hostKeeps_eq_nil_or_candidate (x : List Byte) :
    hostKeeps x = [] ∨ ∃ after, hostKeeps x = Bits.colon :: after ∧ Bits.colon ∉ after ∧ Bits.semicolon ∉ after := by
  rcases hostKeeps_cases x with ⟨-, hkeeps⟩ | ⟨before, after, -, hafter, hkeeps⟩
  · exact .inl hkeeps
  · by_cases hend : Bits.semicolon ∈ after
    · exact .inl (by rw [hkeeps, if_pos hend])
    · exact .inr ⟨after, by rw [hkeeps, if_neg hend], hafter, hend⟩

theorem semicolon_not_mem_candidate {after : List Byte} (h : Bits.semicolon ∉ after) :
    Bits.semicolon ∉ Bits.colon :: after :=
  List.not_mem_cons_of_ne_of_not_mem (by decide) h

/-! The machine over such bytes. -/

section Idle

variable (rom : Rom)

theorem scanLoop_idle_of_no_colon {x : List Byte} (hx : Bits.colon ∉ x) {scn : Scanner} (hs : scn.state = .idle) :
    (scanLoop rom x scn).1.state = .idle := by
  induction x generalizing scn with
  | nil => exact hs
  | cons c rest ih =>
    rw [scanLoop_cons_fst]
    exact ih (List.not_mem_of_not_mem_cons hx) (scanByte_idle hs (List.ne_of_not_mem_cons hx).symm)

/-- After a `';'` and no `':'` there is no candidate, whatever came before. -/
theorem scanLoop_idle_of_semicolon {x : List Byte} (hx : Bits.colon ∉ x) (hend : Bits.semicolon ∈ x) (scn : Scanner) :
    (scanLoop rom x scn).1.state = .idle := by
  obtain ⟨y, z, rfl⟩ := List.append_of_mem hend
  rw [scanLoop_append_fst, scanLoop_cons_fst]
  have hz : Bits.colon ∉ z := fun h => hx (List.mem_append_right _ (List.mem_cons_of_mem _ h))
  exact scanLoop_idle_of_no_colon rom hz (scanByte_semicolon_state rom _)

end Idle

/-- The last byte of a match is a `';'`. -/
theorem ShapeMatch.Spells.semicolon_mem {m : ShapeMatch} {w : List Byte} (h : m.Spells w) : Bits.semicolon ∈ w := by
  obtain ⟨x0, x1, x2, x3, ds, rfl, -⟩ := h
  simp

/-- Without a `';'` there is no match, and no frame. -/
theorem framesOf_of_no_semicolon (rom : Rom) {x : List Byte} (hx : Bits.semicolon ∉ x) : framesOf rom x = [] := by
  have hnone : shapeMatches x = [] := by
    rw [List.eq_nil_iff_forall_not_mem]
    intro m hm
    obtain ⟨pre, w, tail, rfl, hw, -⟩ := mem_shapeMatches_iff.mp hm
    exact hx (List.mem_append_left _ (List.mem_append_right _ hw.semicolon_mem))
  rw [framesOf_eq, hnone]; rfl

theorem framesOf_hostKeeps (rom : Rom) (x : List Byte) : framesOf rom (hostKeeps x) = [] := by
  apply framesOf_of_no_semicolon
  rcases hostKeeps_eq_nil_or_candidate x with hkeeps | ⟨after, hkeeps, -, hend⟩
  · rw [hkeeps]; exact List.not_mem_nil
  · rw [hkeeps]; exact semicolon_not_mem_candidate hend

/-- A `':'` begins afresh: no match straddles the boundary before it. -/
theorem framesOf_append_colon (rom : Rom) (a z : List Byte) :
    framesOf rom (a ++ Bits.colon :: z) = framesOf rom a ++ framesOf rom (Bits.colon :: z) :=
  framesOf_append_of_not_pending (pending_colon rom _ z)

/-- The keeping rule (R246): of the bytes scanned, only the kept ones matter to what follows. -/
theorem framesOf_append_hostKeeps (rom : Rom) (x y : List Byte) :
    framesOf rom (x ++ y) = framesOf rom x ++ framesOf rom (hostKeeps x ++ y) := by
  rcases hostKeeps_cases x with ⟨hnone, hkeeps⟩ | ⟨before, after, rfl, hafter, hkeeps⟩
  · rw [hkeeps]
    exact framesOf_append_of_idle (scanLoop_idle_of_no_colon rom hnone rfl)
  · by_cases hend : Bits.semicolon ∈ after
    · rw [hkeeps, if_pos hend]
      apply framesOf_append_of_idle
      rw [scanLoop_append_fst, scanLoop_cons_fst]
      exact scanLoop_idle_of_semicolon rom hafter hend _
    · have hcandidate : framesOf rom (Bits.colon :: after) = [] :=
        framesOf_of_no_semicolon rom (semicolon_not_mem_candidate hend)
      rw [hkeeps, if_neg hend, List.append_assoc, List.cons_append, framesOf_append_colon, framesOf_append_colon,
        hcandidate, List.append_nil]

/-- The host that keeps bytes by the rule gets the frames of the kept bytes and all its reads. -/
theorem hostScans_eq (reads : List (List Byte)) {s : State} (hc : romCheck s.rom = true) {kept : List Byte}
    (hkept : framesOf s.rom kept = []) : hostScans s kept reads = some (framesOf s.rom (kept ++ reads.flatten)) := by
  induction reads generalizing s kept with
  | nil => rw [List.flatten_nil, List.append_nil, hkept]; rfl
  | cons r rs ih =>
    have hrest := ih (s := s.scanBuffer (kept ++ r)) hc (framesOf_hostKeeps s.rom (kept ++ r))
    rw [List.flatten_cons, ← List.append_assoc, framesOf_append_hostKeeps, ← scanBuffer_frames]
    simp only [hostScans, exec_frmScan_of_check hc, hrest, Option.map_some, scanBuffer_rom]

/-- A match that begins a kept candidate ends beyond it, so a candidate of more than 23 bytes has too many digits. -/
theorem framesOf_long_candidate (rom : Rom) {after : List Byte} (hcolon : Bits.colon ∉ after)
    (hend : Bits.semicolon ∉ after) (hlong : 23 < (Bits.colon :: after).length) (b : List Byte) :
    framesOf rom (Bits.colon :: after ++ b) = framesOf rom b := by
  rw [framesOf_colon_append rom fun x hx h => hcolon (h ▸ hx)]
  cases hm : matchAt 0 (Bits.colon :: after ++ b) with
  | none => rfl
  | some m =>
    obtain ⟨-, -, w, tail, hbuf, hw⟩ := matchAt_eq_some_iff.mp hm
    have hbeyond : (Bits.colon :: after).length < w.length := by
      by_contra hle
      have htake : w = (Bits.colon :: after).take w.length := by
        rw [← List.take_append_of_le_length (l₂ := b) (Nat.not_lt.mp hle), hbuf, List.take_left]
      exact semicolon_not_mem_candidate hend (List.mem_of_mem_take (htake ▸ hw.semicolon_mem))
    have hlen := hw.length
    have hdropped := emitted_of_long rom (m := m) (by omega)
    simp only [Option.toList_some, framesEmitted, List.flatMap_singleton, hdropped, List.nil_append]

/-- Settles O38: the reads by induction with the kept bytes in front, and a candidate of more than 23 bytes by its digits. -/
theorem keepingRuleLosesNoFrame : Obligations.KeepingRuleLosesNoFrame := by
  refine ⟨fun reads s hc => ?_, fun a b s hc hlong => ?_⟩
  · refine ⟨_, exec_frmScan_of_check hc _, ?_⟩
    rw [hostScans_eq reads hc rfl, scanBuffer_frames, List.nil_append]
  · refine ⟨_, _, exec_frmScan_of_check hc _, exec_frmScan_of_check hc _, ?_⟩
    rw [scanBuffer_frames, scanBuffer_frames]
    rcases hostKeeps_eq_nil_or_candidate a with hkeeps | ⟨after, hkeeps, hcolon, hend⟩
    · rw [hkeeps, List.nil_append]
    · rw [hkeeps] at hlong ⊢
      exact framesOf_long_candidate s.rom hcolon hend hlong b

end Machine
end Sys2Proof

/-! PROOF. What every row may do (10_state.md, 43_message_codec.md section 1, 60_exceptions.md section 1): its effect raises only the
row's error kinds and completes only with a value the rules allow; O49, O52, O53 and O54 from it; the codes of the
kinds, O50; and the machine around `exec`: O55, O56 and O57. -/

namespace Sys2Proof

theorem Bits.packPri_low (major minor : BitVec 2) : Bits.packPri major minor &&& 0x0F#8 = 0#8 := by
  revert major minor; decide

theorem Bits.lowByte_low (h : Header) : Bits.lowByte h &&& 0x1F#8 = 0#8 := by
  rw [Bits.lowByte]
  generalize h.sid = sid
  revert sid; decide

theorem Bits.canTop_toNat (h : Header) : (Bits.canTop h).toNat = (Bits.highByte h).toNat / 32 := by
  rw [Bits.canTop, BitVec.toNat_ushiftRight, Nat.shiftRight_eq_div_pow]

/-- Hexadecimal digits are ASCII. -/
theorem Bits.hexchr_lt (n : Nibble) : (Bits.hexchr n).toNat < 0x80 := by
  revert n; decide

theorem Bits.hexBytes_ascii (bs : List Byte) : ∀ c ∈ Bits.hexBytes bs, c.toNat < 0x80 := by
  intro c hc
  obtain ⟨b, -, hc⟩ := List.mem_flatMap.mp hc
  simp only [Bits.hex2, List.mem_cons, List.not_mem_nil, or_false] at hc
  rcases hc with rfl | rfl <;> exact Bits.hexchr_lt _

namespace Machine

/-! Which values an operation may put on the result port (Safety.lean). -/

theorem valid_ascii_iff {rom : Rom} {bs : List Byte} :
    Result.valid rom (.ascii bs) = true ↔ 2 ≤ bs.length ∧ bs.length ≤ 24 ∧ ∀ c ∈ bs, c.toNat < 0x80 := by
  simp [Result.valid, and_assoc]

theorem valid_hexBytes (rom : Rom) {bs : List Byte} (hpos : 1 ≤ bs.length) (hle : bs.length ≤ 12) :
    Result.valid rom (.ascii (Bits.hexBytes bs)) = true := by
  rw [valid_ascii_iff, Bits.hexBytes_length]
  exact ⟨by omega, by omega, Bits.hexBytes_ascii bs⟩

theorem bytes_length_of_lengthOk {m : Message} (h : m.lengthOk = true) : 1 ≤ m.bytes.length ∧ m.bytes.length ≤ 8 := by
  have hlen := (Message.lengthOk_iff m).mp h
  have hop := m.op.isLt
  rw [Message.bytes, List.length_cons]
  omega

theorem valid_frameAscii (rom : Rom) {f : Frame} (h : f.messageOk = true) : Result.valid rom (.ascii (frameAscii f)) = true := by
  have hbody : (messageBytes f).length ≤ 8 := by
    cases hm : f.message with
    | none => simp [messageBytes, hm]
    | some m =>
      rw [Frame.messageOk, hm] at h
      simpa [messageBytes, hm] using (bytes_length_of_lengthOk h).2
  have hmode : (if f.rtr then 0x52#8 else 0x4E#8).toNat < 0x80 := by cases f.rtr <;> decide
  rw [valid_ascii_iff, frameAscii_length]
  refine ⟨by omega, by omega, ?_⟩
  rw [frameAscii_eq]
  simp only [List.forall_mem_append]
  exact ⟨⟨⟨⟨by decide, Bits.hexBytes_ascii _⟩, by simpa using hmode⟩, Bits.hexBytes_ascii _⟩, by decide⟩

theorem valid_descriptor {rom : Rom} {v : Byte} {d : Descriptor} (h : romRead rom v = some d) :
    Result.valid rom (.descriptor d) = true :=
  List.any_eq_true.mpr ⟨(v, d), romRead_mem h, beq_self_eq_true d⟩

theorem valid_message_iff {rom : Rom} {m : Message} :
    Result.valid rom (.message m) = true ↔ m.lengthOk = true ∧ romPresent rom m.op = true := by
  rw [Result.valid, Bool.and_eq_true]

/-! The errors of the shared functions (R210). -/

section Errors

variable {k : ErrKind}

theorem encodeHeader_error {major minor : BitVec 2} {sidIn : BitVec Config.sidInW}
    (h : encodeHeader major minor sidIn = .error k) : k = .invalidIdentifier := by
  unfold encodeHeader at h
  split at h <;> cases h
  rfl

theorem decodeHeader_error {bs : List Byte} (h : decodeHeader bs = .error k) : k = .insufficientData := by
  unfold decodeHeader at h
  split at h <;> cases h
  rfl

theorem lookupDescriptor_eq_ok {rom : Rom} {v : Byte} {d : Descriptor} (h : lookupDescriptor rom v = .ok d) :
    romRead rom v = some d := by
  unfold lookupDescriptor at h
  split at h <;> cases h
  assumption

theorem lookupDescriptor_error {rom : Rom} {v : Byte} (h : lookupDescriptor rom v = .error k) : k = .unknownOpcode := by
  unfold lookupDescriptor at h
  split at h <;> cases h
  rfl

theorem newMessage_error {v : Byte} {p : Option (List Byte)} (h : newMessage v p = .error k) :
    k = .payloadLengthMismatch := by
  unfold newMessage at h
  split at h
  · cases h
  · split at h <;> cases h
    rfl

theorem messageOf_error {rom : Rom} {bs : List Byte} (h : messageOf rom bs = .error k) :
    k ∈ [ErrKind.emptyInput, .unknownOpcode, .payloadLengthMismatch] := by
  cases bs with
  | nil => cases h; simp
  | cons v p =>
    by_cases hp : romPresent rom v = true
    · rw [messageOf_cons_of_present hp] at h
      simp [newMessage_error h]
    · rw [messageOf_cons_of_absent hp] at h
      cases h; simp

end Errors

/-- Settles O50: the table of codes, kind by kind. -/
theorem errorCodesOfThePort : Obligations.ErrorCodesOfThePort := by
  have hbelow (e : Err) : (errCode e).toNat < 6 := by
    cases e with
    | ok => decide
    | kind k => cases k <;> decide
  exact ⟨rfl, rfl, rfl, rfl, rfl, rfl, hbelow, rfl⟩

/-! The effect of a row, held to the row's error kinds `ks` and to the rules for results. -/

/-- An effect that the rules allow: an error kind of `ks`, a result that is valid and shows on no byte or frame port, or ASCII
bytes that are valid. -/
def Effect.Allowed (ks : List ErrKind) (rom : Rom) : Effect → Prop
  | .refuse _ => True
  | .complete r => r.valid rom = true ∧ r.framesOut = [] ∧ r.bytesOut = []
  | .raise k => k ∈ ks
  | .putAscii bs => Result.valid rom (.ascii bs) = true
  | .scan _ => True

/-- The outcome is an allowed effect on the state. -/
def Lawful (ks : List ErrKind) (s : State) (o : Host.Outcome State Fault Refusal) : Prop :=
  ∃ e : Effect, o = e.on s ∧ e.Allowed ks s.rom

section Lawful

variable {ks : List ErrKind} {s : State} {k : Host.Outcome State Fault Refusal}

theorem lawful_refused (r : Refusal) : Lawful ks s (.refused r) := ⟨.refuse r, rfl, trivial⟩

theorem lawful_complete {r : Result} (hvalid : r.valid s.rom = true) (hframes : r.framesOut = [])
    (hbytes : r.bytesOut = []) : Lawful ks s (.next (s.complete r)) :=
  ⟨.complete r, rfl, hvalid, hframes, hbytes⟩

theorem lawful_putAscii {bs : List Byte} (h : Result.valid s.rom (.ascii bs) = true) : Lawful ks s (.next (s.putAscii bs)) :=
  ⟨.putAscii bs, rfl, h⟩

/-- An answer from the operands and the ROM: its values are allowed, its errors in the row's list. -/
theorem lawful_respond {α : Type} {f : α → Result} {x : Except ErrKind α}
    (hok : ∀ a, x = .ok a → (f a).valid s.rom = true) (hplain : ∀ a, (f a).framesOut = [] ∧ (f a).bytesOut = [])
    (herr : ∀ e, x = .error e → e ∈ ks) : Lawful ks s (respond (x.map f) s) := by
  cases x with
  | ok a => exact lawful_complete (hok a rfl) (hplain a).1 (hplain a).2
  | error e => exact ⟨.raise e, rfl, herr e rfl⟩

/-- Every precondition but `withNamed` is a test that refuses. -/
theorem Lawful.ite {c : Prop} [Decidable c] {r : Refusal} (h : c → Lawful ks s k) :
    Lawful ks s (if c then k else .refused r) := by
  split
  · exact h ‹c›
  · exact lawful_refused r

theorem Lawful.withNamed {name : String} {f : Byte → Host.Outcome State Fault Refusal} (h : ∀ v, Lawful ks s (f v)) :
    Lawful ks s (withNamed name s f) := by
  unfold Machine.withNamed
  split
  · exact h _
  · exact lawful_refused _

theorem lawful_presentHeader (bs : List Byte) (hks : .insufficientData ∈ ks) : Lawful ks s (presentHeader bs s) :=
  Lawful.ite fun _ => lawful_respond (fun _ _ => rfl) (fun _ => ⟨rfl, rfl⟩) fun _ he => decodeHeader_error he ▸ hks

theorem lawful_constructMessage (v : Byte) (p : Option (List Byte)) (hks : .payloadLengthMismatch ∈ ks) :
    Lawful ks s (constructMessage v p s) := by
  refine Lawful.ite fun _ => Lawful.ite fun hp => lawful_respond (fun m hm => ?_) (fun _ => ⟨rfl, rfl⟩) fun _ he =>
    newMessage_error he ▸ hks
  obtain ⟨rfl, hlen⟩ := newMessage_ok hm
  exact valid_message_iff.mpr ⟨hlen, hp⟩

theorem lawful_decodeMessage (bs : List Byte) (hks : [.emptyInput, .unknownOpcode, .payloadLengthMismatch] ⊆ ks) :
    Lawful ks s (decodeMessage bs s) := by
  refine Lawful.ite fun _ => lawful_respond (fun m hm => ?_) (fun _ => ⟨rfl, rfl⟩) fun _ he => hks (messageOf_error he)
  obtain ⟨-, hlen, hp⟩ := messageOf_ok hm
  exact valid_message_iff.mpr ⟨hlen, hp⟩

theorem lawful_packName (v : Byte) (name : List Byte) (hks : .payloadLengthMismatch ∈ ks) :
    Lawful ks s (packName v name s) :=
  Lawful.ite fun _ => lawful_constructMessage v _ hks

theorem lawful_scanFrames (buf : List Byte) : Lawful ks s (scanFrames buf s) :=
  Lawful.ite fun _ => ⟨.scan buf, rfl, trivial⟩

theorem lawful_showCanId (h : Header) : Lawful ks s (showCanId h s) := by
  refine lawful_complete ?_ rfl rfl
  have htop := Bits.canTop_toNat h
  have hhigh := (Bits.highByte h).isLt
  exact decide_eq_true (by omega)

end Lawful

/-- The rows that are no operations are held to no kind in particular: all five are in their list. -/
theorem mem_errKinds (k : ErrKind) :
    k ∈ [ErrKind.invalidIdentifier, .insufficientData, .emptyInput, .unknownOpcode, .payloadLengthMismatch] := by
  cases k <;> simp

/-- Every row does what the rules allow it. The rows not named are the 130 entries of the default catalog (log 3). -/
theorem exec_lawful (i : Instr) (s : State) : Lawful (errorsOf i) s (exec i s) := by
  cases i with
  | priPack major minor => exact lawful_complete (beq_iff_eq.mpr (Bits.packPri_low major minor)) rfl rfl
  | priUnpack | formatPri | hdrEq | catLen | catCheck => exact lawful_complete rfl rfl rfl
  | hdrReg h => exact lawful_complete (beq_iff_eq.mpr (Bits.lowByte_low h)) rfl rfl
  | hdrCanid | formatCanid => exact lawful_showCanId _
  | hdrEnc =>
    exact lawful_respond (fun _ _ => rfl) (fun _ => ⟨rfl, rfl⟩) fun _ he => encodeHeader_error he ▸ List.mem_singleton_self _
  | hdrDec bs => exact lawful_presentHeader bs (List.mem_singleton_self _)
  | formatHdr hb lb => exact lawful_presentHeader [hb, lb] (mem_errKinds _)
  | hdrAscii h => exact lawful_putAscii (valid_hexBytes _ (bs := [_, _]) (by simp) (by simp))
  -- The operand must be a message, or a frame of one (R13).
  | msgHex m =>
    refine Lawful.ite fun hm => lawful_putAscii ?_
    obtain ⟨hpos, hle⟩ := bytes_length_of_lengthOk hm
    exact valid_hexBytes _ hpos (by omega)
  | msgEq | frmEq => exact Lawful.ite fun _ => Lawful.ite fun _ => lawful_complete rfl rfl rfl
  | frmEnc f => exact Lawful.ite fun hf => lawful_putAscii (valid_frameAscii _ hf)
  -- The ROM is read.
  | catLookup v =>
    exact Lawful.ite fun _ => lawful_respond (fun _ hd => valid_descriptor (lookupDescriptor_eq_ok hd))
      (fun _ => ⟨rfl, rfl⟩) fun _ he => lookupDescriptor_error he ▸ List.mem_singleton_self _
  | frmScan buf | formatWire buf => exact lawful_scanFrames buf
  | msgDec bs => exact lawful_decodeMessage bs (List.Subset.refl _)
  | msgNew | pkEng | pkAlev | pkCsrpt | pkU16 | pkU8 => exact lawful_constructMessage _ _ (List.mem_singleton_self _)
  | pkName => exact lawful_packName _ _ (List.mem_singleton_self _)
  | entrySessionKeepAlive | entryRequestEngineSession | entryEngineReport | entryCommandStationReport =>
    exact lawful_constructMessage _ _ (mem_errKinds _)
  | entryModuleName => exact lawful_packName _ _ (mem_errKinds _)
  | entryAcon | entryCmderr | entryErr =>
    exact Lawful.ite fun _ => Lawful.withNamed fun _ => lawful_constructMessage _ _ (mem_errKinds _)
  | unused0F | unused16 | unused17 | unused1B | unused1C | unused1D | unused1E | unused1F => exact lawful_refused _
  | _ => exact lawful_decodeMessage _ fun k _ => mem_errKinds k

/-! What an allowed effect leaves in the state. -/

section Next

variable {ks : List ErrKind} {e : Effect} {s t : State}

theorem Effect.rom_and_host_of_on (h : e.on s = .next t) : t.rom = s.rom ∧ t.host = s.host := by
  cases e <;> cases h <;> exact ⟨rfl, rfl⟩

theorem Effect.message_of_on (hnext : e.on s = .next t) (h : e.Allowed ks s.rom) {m : Message}
    (hres : t.res = some (.message m)) : m.lengthOk = true ∧ romPresent s.rom m.op = true := by
  cases e with
  | complete r =>
    cases hnext
    obtain rfl : r = .message m := Option.some.inj hres
    exact valid_message_iff.mp h.1
  | refuse | raise | putAscii | scan => cases hnext <;> cases hres

theorem Effect.carriesMessage_of_on (hnext : e.on s = .next t) {f : Frame} (hf : f ∈ t.frameOut) :
    Frame.carriesMessage s.rom f = true := by
  cases e with
  | scan buf =>
    cases hnext
    rw [scanBuffer_frames] at hf
    exact carriesMessage_of_mem_framesOf hf
  | refuse | complete | raise | putAscii => cases hnext <;> cases hf

/-- The parts of the invariant. -/
theorem inv_iff : s.inv = true ↔
    romWf s.rom = true ∧ romCheck s.rom = true ∧ s.scn.isClear = true ∧ s.serIdx = 0 ∧ s.portsOk = true := by
  simp [State.inv, and_assoc]

/-- The ports after an allowed effect agree with one another. -/
theorem Effect.portsOk_of_on (hnext : e.on s = .next t) (h : e.Allowed ks s.rom) : t.portsOk = true := by
  cases e with
  | refuse => cases hnext
  | complete r =>
    cases hnext
    obtain ⟨hvalid, hframes, hbytes⟩ := h
    simp [State.portsOk, hvalid, hframes, hbytes, beats]
  | raise k => cases hnext; simp [State.portsOk]
  | putAscii bs =>
    cases hnext
    have hvalid : Result.valid s.rom (.ascii bs) = true := h
    simp [State.portsOk, hvalid, serRun_all, Result.framesOut, Result.bytesOut]
  | scan buf =>
    cases hnext
    have hvalid : Result.valid s.rom (.frames (framesOf s.rom buf)) = true :=
      List.all_eq_true.mpr fun f hf => carriesMessage_of_mem_framesOf hf
    rw [← scanBuffer_frames] at hvalid
    simp only [scanBuffer_frameOut] at hvalid
    simp [State.portsOk, hvalid, Result.framesOut, Result.bytesOut, beats]

/-- No effect leaves a scan or a serialization half done. -/
theorem Effect.idle_of_on (hnext : e.on s = .next t) (hscn : s.scn.isClear = true) (hser : s.serIdx = 0) :
    t.scn.isClear = true ∧ t.serIdx = 0 := by
  cases e with
  | refuse => cases hnext
  | complete | raise => cases hnext; exact ⟨hscn, hser⟩
  | putAscii bs => cases hnext; exact ⟨hscn, by rw [putAscii_serIdx, serRun_all]⟩
  | scan buf => cases hnext; exact ⟨rfl, hser⟩

theorem Effect.inv_of_on (hnext : e.on s = .next t) (h : e.Allowed ks s.rom) (hinv : s.inv = true) : t.inv = true := by
  obtain ⟨hwf, hcheck, hscn, hser, -⟩ := inv_iff.mp hinv
  obtain ⟨hrom, -⟩ := Effect.rom_and_host_of_on hnext
  obtain ⟨hscn', hser'⟩ := Effect.idle_of_on hnext hscn hser
  exact inv_iff.mpr ⟨hrom ▸ hwf, hrom ▸ hcheck, hscn', hser', Effect.portsOk_of_on hnext h⟩

end Next

/-- The effect behind a row's next state. -/
theorem exec_next {i : Instr} {s t : State} (h : exec i s = .next t) :
    ∃ e : Effect, e.on s = .next t ∧ e.Allowed (errorsOf i) s.rom := by
  obtain ⟨e, he, hallowed⟩ := exec_lawful i s
  exact ⟨e, he ▸ h, hallowed⟩

/-- Settles O49: a kind on `err` was raised, and a row raises only the kinds of its list. -/
theorem onlyTheseErrorsAreReturned : Obligations.OnlyTheseErrorsAreReturned := by
  intro i s t k hnext herr
  obtain ⟨e, he, hallowed⟩ := exec_next hnext
  obtain rfl : e = .raise k := Effect.eq_raise_of_err he herr
  exact hallowed

/-- Settles O52: no effect writes the ROM or the queue. -/
theorem noOperationWritesTheRom : Obligations.NoOperationWritesTheRom := by
  intro i s t hnext
  obtain ⟨e, he, -⟩ := exec_next hnext
  obtain ⟨hrom, hhost⟩ := Effect.rom_and_host_of_on he
  exact ⟨hrom, fun v => by rw [hrom], hhost⟩

/-- Settles O53: a message is on `res` by completing with it, and a frame on `frame_out` by a scan. -/
theorem onlyMessagesAreReturned : Obligations.OnlyMessagesAreReturned := by
  intro i s t hnext
  obtain ⟨e, he, hallowed⟩ := exec_next hnext
  refine ⟨fun m hres => ?_, fun f hf => ?_⟩
  · obtain ⟨hlen, hp⟩ := Effect.message_of_on he hallowed hres
    exact ⟨(Message.lengthOk_iff m).mp hlen, hp⟩
  · obtain ⟨m, hm, hlen, hp⟩ := carriesMessage_iff.mp (Effect.carriesMessage_of_on he hf)
    exact ⟨m, hm, (Message.lengthOk_iff m).mp hlen, hp⟩

/-! The machine around `exec`. -/

theorem step_of_nothing {s : State} (h : s.host = []) : step s = .next s := by
  simp only [step, runPresented, h]

theorem step_of_presented {s : State} {bytes : List Byte} {later : List (List Byte)} (h : s.host = bytes :: later) :
    step s = runTransaction bytes (s.takeTransaction later) := by
  simp only [step, runPresented, h]

theorem runTransaction_of_ok {bytes rest : List Byte} {i : Instr} (h : decode bytes = .ok (i, rest)) (s : State) :
    runTransaction bytes s = exec i s := by
  simp only [runTransaction, h]

theorem runTransaction_of_error {bytes : List Byte} {r : Reject} (h : decode bytes = .error r) (s : State) :
    runTransaction bytes s = .refused (.undecodable r) := by
  simp only [runTransaction, h]

/-- All that a step can do: nothing, or a row on the state without the transaction. -/
theorem step_next {s t : State} (h : step s = .next t) :
    t = s ∨ ∃ later i, exec i (s.takeTransaction later) = .next t := by
  cases hhost : s.host with
  | nil =>
    rw [step_of_nothing hhost] at h
    exact .inl (Host.Outcome.next.inj h).symm
  | cons bytes later =>
    rw [step_of_presented hhost] at h
    cases hd : decode bytes with
    | ok r =>
      obtain ⟨i, rest⟩ := r
      exact .inr ⟨later, i, by rwa [runTransaction_of_ok hd] at h⟩
    | error r => rw [runTransaction_of_error hd] at h; cases h

/-- The invariant reads nothing of the host's queue. -/
theorem inv_takeTransaction (s : State) (later : List (List Byte)) : (s.takeTransaction later).inv = s.inv := rfl

/-- Settles O54: a step is no change or a row's effect, and every effect that the rules allow keeps the invariant. -/
theorem stepKeepsTheInvariant : Obligations.StepKeepsTheInvariant := by
  intro s t hinv hstep
  rcases step_next hstep with rfl | ⟨later, i, hnext⟩
  · exact hinv
  · obtain ⟨e, he, hallowed⟩ := exec_next hnext
    exact Effect.inv_of_on he hallowed (inv_takeTransaction s later ▸ hinv)

/-- Settles O55: the default catalog's addresses rise, its entries store their address's byte count, and no port shows
anything. -/
theorem invariantHoldsAtReset : Obligations.InvariantHoldsAtReset := by
  refine inv_iff.mpr ⟨?_, ?_, rfl, rfl, rfl⟩
  · decide
  · decide

/-- Settles O56: the values of `State.reset`, field by field. -/
theorem resetValues : Obligations.ResetValues :=
  ⟨rfl, rfl, rfl, rfl, rfl, rfl, rfl, rfl, rfl, rfl⟩

/-- Settles O57: the three cases of the presented queue and the decoder's answer. -/
theorem stepRunsTheDecodedInstruction : Obligations.StepRunsTheDecodedInstruction := by
  refine fun s => ⟨fun bytes later i rest hhost hd _ => ?_, fun bytes later r hhost hd => ?_, step_of_nothing⟩
  · rw [step_of_presented hhost, runTransaction_of_ok hd]; rfl
  · rw [step_of_presented hhost, runTransaction_of_error hd]

end Machine
end Sys2Proof

/-! PROOF. The encoding (log 1): each field reads back what its writer wrote, so that decoding undoes encoding; whatever is read is a
value its port carries; the 130 rows of the default catalog as one list; and O58, O59, O60, O46 and O45 from them. -/

namespace Sys2Proof

/-- R14's invariant of a frame: its message, if it has one, is a message. -/
theorem Frame.messageOk_iff (f : Frame) : f.messageOk = true ↔ ∀ m ∈ f.message, m.lengthOk = true := by
  rw [Frame.messageOk]
  cases f.message <;> simp

namespace Reader

variable {α β : Type}

/-! A field first, then the rest of the bundle: the reader takes what the writer wrote. -/

@[simp] theorem andThen_byte (k : Byte → Reader β) (b : Byte) (rest : List Byte) : andThen byte k (b :: rest) = k b rest := rfl

@[simp] theorem andThen_narrow {n : Nat} (hn : n ≤ 8) (k : BitVec n → Reader β) (x : BitVec n) (rest : List Byte) :
    andThen (narrow n) k (Writer.narrow x ++ rest) = k x rest :=
  andThen_ok (narrow_writer hn x rest)

@[simp] theorem andThen_marker (k : Bool → Reader β) (b : Bool) (rest : List Byte) :
    andThen marker k (Writer.marker b ++ rest) = k b rest :=
  andThen_ok (marker_writer b rest)

@[simp] theorem andThen_word16 (k : BitVec 16 → Reader β) (n : BitVec 16) (rest : List Byte) :
    andThen word16 k (Bits.be16 n ++ rest) = k n rest :=
  andThen_ok (word16_writer n rest)

@[simp] theorem andThen_seq (k : List Byte → Reader β) (bs rest : List Byte) :
    andThen seq k (Writer.seq bs ++ rest) = k bs rest :=
  andThen_ok (seq_writer bs rest)

@[simp] theorem andThen_opt_byte (k : Option Byte → Reader β) (o : Option Byte) (rest : List Byte) :
    andThen (opt byte) k (Writer.opt Writer.byte o ++ rest) = k o rest :=
  andThen_ok (opt_writer (fun _ _ => rfl) o rest)

@[simp] theorem andThen_opt_seq (k : Option (List Byte) → Reader β) (o : Option (List Byte)) (rest : List Byte) :
    andThen (opt seq) k (Writer.opt Writer.seq o ++ rest) = k o rest :=
  andThen_ok (opt_writer seq_writer o rest)

theorem andThen_message (k : Message → Reader β) {m : Message} (h : m.lengthOk = true) (rest : List Byte) :
    andThen message k (m.bytes ++ rest) = k m rest :=
  andThen_ok (message_writer h rest)

@[simp] theorem andThen_header (k : Header → Reader β) (h : Header) (rest : List Byte) :
    andThen header k (Writer.header h ++ rest) = k h rest := by
  refine andThen_ok ?_
  rw [Writer.header, List.append_assoc, List.append_assoc, header, andThen_narrow (by decide), andThen_narrow (by decide),
    andThen_narrow (by decide)]
  rfl

theorem opt_message_writer {o : Option Message} (h : ∀ m ∈ o, m.lengthOk = true) (rest : List Byte) :
    opt message (Writer.opt Message.bytes o ++ rest) = .ok (o, rest) := by
  cases o with
  | none => rfl
  | some m =>
    have hmarker : marker (1 :: (m.bytes ++ rest)) = .ok (true, m.bytes ++ rest) := rfl
    rw [Writer.opt, List.cons_append, opt, andThen_ok hmarker]
    exact andThen_message _ (h m rfl) rest

theorem andThen_frame (k : Frame → Reader β) {f : Frame} (h : f.messageOk = true) (rest : List Byte) :
    andThen frame k (Writer.frame f ++ rest) = k f rest := by
  refine andThen_ok ?_
  rw [Writer.frame, List.append_assoc, List.append_assoc, frame, andThen_header, andThen_marker,
    andThen_ok (opt_message_writer ((Frame.messageOk_iff f).mp h) rest)]
  rfl

/-! The bundles that several rows share. -/

section Bundles

variable (rest : List Byte)

@[simp] theorem engine_writer (mk : Byte → BitVec 16 → Byte → BitVec 1 → Option Byte → Option Byte → Option Byte → Instr)
    (session : Byte) (addr : BitVec 16) (speed : Byte) (dir : BitVec 1) (f1 f2 f3 : Option Byte) :
    engine mk (Writer.engine session addr speed dir f1 f2 f3 ++ rest) = .ok (mk session addr speed dir f1 f2 f3, rest) := by
  simp [engine, Writer.engine]

@[simp] theorem station_writer (mk : BitVec 16 → Byte → Byte → Byte → Byte → Option Byte → Instr) (node : BitVec 16)
    (cs flags majorRev minorRev : Byte) (build : Option Byte) :
    station mk (Writer.station node cs flags majorRev minorRev build ++ rest) =
      .ok (mk node cs flags majorRev minorRev build, rest) := by
  simp [station, Writer.station]

@[simp] theorem nodeEvent_writer (mk : BitVec 16 → BitVec 16 → Instr) (node event : BitVec 16) :
    nodeEvent mk (Bits.be16 node ++ (Bits.be16 event ++ rest)) = .ok (mk node event, rest) := by
  simp [nodeEvent]

/-- The operand of HDR.DEC, when its port can carry it (R93). -/
theorem andThen_shortSeq (k : List Byte → Reader β) {bs : List Byte} (h : bs.length ≤ 2) :
    andThen shortSeq k (Writer.seq bs ++ rest) = k bs rest :=
  andThen_ok (by rw [shortSeq, andThen_seq, if_pos h]; rfl)

/-- A module name, when it is ASCII (R154). -/
theorem andThen_name (k : List Byte → Reader β) {bs : List Byte} (h : Instr.nameOk bs = true) :
    andThen name k (Writer.seq bs ++ rest) = k bs rest :=
  andThen_ok (by rw [name, andThen_seq, if_pos h]; rfl)

/-- An 11-bit identifier stands in the low bits of a 16-bit field (R54). -/
@[simp] theorem andThen_word11 (k : BitVec 11 → Reader β) (id : BitVec 11) :
    andThen word11 k (Bits.be16 (id.setWidth 16) ++ rest) = k id rest := by
  have hwide : (id.setWidth 16).toNat = id.toNat := by rw [BitVec.toNat_setWidth]; omega
  have hback : (id.setWidth 16).setWidth 11 = id := by
    apply BitVec.eq_of_toNat_eq
    rw [BitVec.toNat_setWidth, hwide]; omega
  refine andThen_ok ?_
  rw [word11, andThen_word16, if_pos (hwide ▸ id.isLt), hback]
  rfl

end Bundles
end Reader

/-! The rows of the default catalog, by address. -/

section Catalog

variable {v : Byte} {mk : List Byte → Instr} {rows : List (Byte × (List Byte → Instr))}

theorem romRowAt_mem (h : romRowAt v rows = some mk) : (v, mk) ∈ rows := by
  induction rows with
  | nil => cases h
  | cons e rows ih =>
    obtain ⟨a, f⟩ := e
    rw [romRowAt] at h
    split at h
    next ha =>
      obtain rfl : a = v := ha
      obtain rfl : f = mk := Option.some.inj h
      exact List.mem_cons_self
    next => exact List.mem_cons_of_mem _ (ih h)

theorem romRowAt_append_of_not_mem (h : v ∉ rows.map Prod.fst) (more : List (Byte × (List Byte → Instr))) :
    romRowAt v (rows ++ more) = romRowAt v more := by
  induction rows with
  | nil => rfl
  | cons e rows ih =>
    rw [List.map_cons] at h
    rw [List.cons_append, romRowAt, if_neg (List.ne_of_not_mem_cons h).symm, ih (List.not_mem_of_not_mem_cons h)]

/-- The last twenty rows are looked up among themselves: no row before them has an address of theirs. -/
theorem romRowAt_romRows7 (h : romRowAt v romRows7 = some mk) : romRowAt v romRows = some mk := by
  have hapart : ∀ a ∈ romRows7.map Prod.fst,
      a ∉ (romRows0 ++ romRows1 ++ romRows2 ++ romRows3 ++ romRows4 ++ romRows5 ++ romRows6).map Prod.fst := by decide
  have hv : v ∈ romRows7.map Prod.fst := List.mem_map_of_mem (romRowAt_mem h)
  rw [romRows, romRowAt_append_of_not_mem (hapart v hv), h]

end Catalog

/-! Bytes 0 and 1: the row. -/

section Rows

variable (operands rest : List Byte)

theorem decode_operation {code : Byte} (h : code.toNat < 0x20) :
    decode (Writer.operation code operands ++ rest) = readOperation code.toNat (operands ++ rest) := by
  have hread : decode (Writer.operation code operands ++ rest) = readRow code 0 (operands ++ rest) := rfl
  rw [hread, readRow, if_pos rfl, if_pos h]

theorem decode_unnumbered (row : Byte) :
    decode (Writer.unnumbered row operands ++ rest) = readUnnumbered row.toNat (operands ++ rest) := rfl

/-- Whatever its page, a ROM row is read by its address. -/
theorem readRow_romPage (v : Byte) : readRow v (romPage v) = readRomRow v := by
  unfold romPage
  by_cases h : sharedWord v = true
  · have hpage : (1 : Byte) ≠ 0 := by decide
    rw [if_pos h, readRow, if_neg hpage, if_pos rfl, if_pos h]
  · rw [if_neg h]
    simp only [sharedWord, Bool.or_eq_true, decide_eq_true_eq, beq_iff_eq, not_or] at h
    obtain ⟨⟨hlow, (h23 : v ≠ 0x23)⟩, (h40 : v ≠ 0x40)⟩ := h
    rw [readRow, if_pos rfl, if_neg hlow, if_neg h23, if_neg h40]

theorem decode_romRow {v : Byte} {mk : List Byte → Instr} (hrow : romRowAt v romRows = some mk) {p : List Byte}
    (hp : Instr.payloadFits v p = true) : decode (Writer.romRow v p ++ rest) = .ok (mk p, rest) := by
  have hread : decode (Writer.romRow v p ++ rest) = readRow v (romPage v) (p ++ rest) := rfl
  have hlen : p.length = Bits.payloadLen v := beq_iff_eq.mp hp
  rw [hread, readRow_romPage, readRomRow, hrow, ← hlen]
  exact Reader.andThen_ok (Reader.bytes_append p rest)

end Rows

open Reader in
/-- Settles O58: an operation by its code, a row of page 2 by its number, any other row by its place in the catalog. -/
theorem decodeInvertsEncode : Obligations.DecodeInvertsEncode := by
  intro i rest hwf
  cases i with
  | priPack | priUnpack | hdrEnc | hdrReg | hdrCanid | hdrAscii | hdrEq | catLen | catLookup | catCheck | msgNew | msgDec
  | pkEng | pkAlev | pkCsrpt | pkU16 | pkU8 | frmScan
  | unused0F | unused16 | unused17 | unused1B | unused1C | unused1D | unused1E | unused1F =>
    rw [encode, decode_operation _ _ (by decide)]
    simp [readOperation]
  -- An operand that its port carries (R13, R93, R154).
  | hdrDec bs =>
    rw [encode, decode_operation _ _ (by decide)]
    exact andThen_shortSeq rest _ (of_decide_eq_true hwf)
  | msgHex m =>
    rw [encode, decode_operation _ _ (by decide)]
    exact andThen_message _ hwf rest
  | msgEq m1 m2 =>
    obtain ⟨h1, h2⟩ := Bool.and_eq_true_iff.mp hwf
    rw [encode, decode_operation _ _ (by decide), List.append_assoc]
    exact (andThen_message _ h1 _).trans (andThen_message _ h2 rest)
  | pkName v name =>
    rw [encode, decode_operation _ _ (by decide)]
    exact andThen_name rest _ hwf
  | frmEnc f =>
    rw [encode, decode_operation _ _ (by decide)]
    exact andThen_frame _ hwf rest
  | frmEq f1 f2 =>
    obtain ⟨h1, h2⟩ := Bool.and_eq_true_iff.mp hwf
    rw [encode, decode_operation _ _ (by decide), List.append_assoc]
    exact (andThen_frame _ h1 _).trans (andThen_frame _ h2 rest)
  -- The rows with a word or a page of their own.
  | entrySessionKeepAlive => rfl
  | entryRequestEngineSession addr => exact andThen_word16 (fun addr => done (Instr.entryRequestEngineSession addr)) addr rest
  | formatPri | formatHdr | formatCanid | formatMsg | formatWire | entryAcon | entryEngineReport
  | entryCommandStationReport | entryCmderr | entryErr =>
    rw [encode, decode_unnumbered]
    simp [readUnnumbered]
  | entryModuleName idx name =>
    rw [encode, decode_unnumbered, List.append_assoc]
    exact (andThen_narrow (by decide) _ idx _).trans (andThen_name rest _ hwf)
  -- The rows of the catalog.
  | romRDCC6 | romPLOC | romNAME | romSTAT | romPARAMS | romACON3 | romACOF3 | romENRSP | romARON3
  | romAROF3 | romEVLRNI | romACDAT | romARDAT | romASON3 | romASOF3 | romDDES | romDDRS | romARSON3 | romARSOF3 | romEXTC6 =>
    exact decode_romRow rest (romRowAt_romRows7 rfl) hwf
  | _ => exact decode_romRow rest rfl hwf

/-! Whatever the bytes, what a reader gives is a value of its field. -/

namespace Reader

/-- Every value the reader gives satisfies `P`. -/
def Gives {α : Type} (P : α → Prop) (r : Reader α) : Prop := ∀ bs a rest, r bs = .ok (a, rest) → P a

section Gives

variable {α β : Type} {P : α → Prop} {Q : β → Prop} {r : Reader α} {k : α → Reader β}

theorem gives_done {b : β} (h : Q b) : Gives Q (done b) := by
  intro bs a rest hread
  cases hread
  exact h

theorem gives_reject (e : Reject) : Gives Q (reject e) := fun _ _ _ hread => nomatch hread

theorem Gives.andThen (hr : Gives P r) (hk : ∀ a, P a → Gives Q (k a)) : Gives Q (andThen r k) := by
  intro bs b rest hread
  obtain ⟨a, left, ha, hb⟩ := andThen_eq_ok hread
  exact hk a (hr _ _ _ ha) _ _ _ hb

/-- A field of which nothing is needed. -/
theorem gives_andThen (hk : ∀ a, Gives Q (k a)) : Gives Q (andThen r k) :=
  Gives.andThen (P := fun _ => True) (fun _ _ _ _ => trivial) fun a _ => hk a

theorem Gives.ite {c : Prop} [Decidable c] {r r' : Reader β} (h : c → Gives Q r) (h' : ¬ c → Gives Q r') :
    Gives Q (if c then r else r') := by
  split
  · exact h ‹c›
  · exact h' ‹¬ c›

end Gives

theorem bytes_gives (n : Nat) : Gives (fun bs => bs.length = n) (bytes n) := by
  induction n with
  | zero => exact gives_done rfl
  | succ n ih => exact gives_andThen fun b => ih.andThen fun bs hbs => gives_done (by rw [List.length_cons, hbs])

theorem message_gives : Gives (fun m => m.lengthOk = true) message :=
  gives_andThen fun _ => (bytes_gives _).andThen fun _ hp => gives_done (beq_iff_eq.mpr hp)

theorem opt_message_gives : Gives (fun o => ∀ m ∈ o, m.lengthOk = true) (opt message) := by
  refine gives_andThen fun present => Gives.ite (fun _ => ?_) fun _ => ?_
  · exact message_gives.andThen fun m hm => gives_done fun m' hm' => Option.some.inj hm' ▸ hm
  · exact gives_done fun m hm => nomatch hm

theorem frame_gives : Gives (fun f => f.messageOk = true) frame :=
  gives_andThen fun _ => gives_andThen fun _ => opt_message_gives.andThen fun _ ho =>
    gives_done ((Frame.messageOk_iff _).mpr ho)

theorem shortSeq_gives : Gives (fun bs => bs.length ≤ 2) shortSeq :=
  gives_andThen fun _ => Gives.ite (fun h => gives_done h) fun _ => gives_reject _

theorem name_gives : Gives (fun bs => Instr.nameOk bs = true) name :=
  gives_andThen fun _ => Gives.ite (fun h => gives_done h) fun _ => gives_reject _

/-! The bundles that several rows share, of whose fields nothing is needed. -/

variable {Q : Instr → Prop}

theorem engine_gives {mk : Byte → BitVec 16 → Byte → BitVec 1 → Option Byte → Option Byte → Option Byte → Instr}
    (h : ∀ a b c d e f g, Q (mk a b c d e f g)) : Gives Q (engine mk) :=
  gives_andThen fun _ => gives_andThen fun _ => gives_andThen fun _ => gives_andThen fun _ => gives_andThen fun _ =>
    gives_andThen fun _ => gives_andThen fun _ => gives_done (h _ _ _ _ _ _ _)

theorem station_gives {mk : BitVec 16 → Byte → Byte → Byte → Byte → Option Byte → Instr}
    (h : ∀ a b c d e f, Q (mk a b c d e f)) : Gives Q (station mk) :=
  gives_andThen fun _ => gives_andThen fun _ => gives_andThen fun _ => gives_andThen fun _ => gives_andThen fun _ =>
    gives_andThen fun _ => gives_done (h _ _ _ _ _ _)

theorem nodeEvent_gives {mk : BitVec 16 → BitVec 16 → Instr} (h : ∀ a b, Q (mk a b)) : Gives Q (nodeEvent mk) :=
  gives_andThen fun _ => gives_andThen fun _ => gives_done (h _ _)

end Reader

/-! The 130 rows as one: a row at `v` takes `v >> 5` payload bytes and presents its binary message to the codec (log 3). -/

/-- What each row of the default catalog is. -/
def PresentsMessage (row : Byte × (List Byte → Instr)) : Prop :=
  ∀ p, (row.2 p).wellFormed = Instr.payloadFits row.1 p ∧
    ∀ s, Machine.exec (row.2 p) s = Machine.decodeMessage (row.1 :: p) s

theorem romRows_presentMessage : ∀ row ∈ romRows, PresentsMessage row := by
  simp only [romRows, romRows0, romRows1, romRows2, romRows3, romRows4, romRows5, romRows6, romRows7,
    List.forall_mem_append, List.forall_mem_cons, List.not_mem_nil, false_imp_iff, implies_true, and_true]
  and_intros
  all_goals exact fun p => ⟨rfl, fun s => rfl⟩

open Reader

theorem readRomRow_wellFormed (v : Byte) : Gives (fun i => i.wellFormed = true) (readRomRow v) := by
  unfold readRomRow
  cases hrow : romRowAt v romRows with
  | none => exact gives_reject _
  | some mk =>
    refine (bytes_gives _).andThen fun p hp => gives_done ?_
    rw [(romRows_presentMessage _ (romRowAt_mem hrow) p).1]
    exact beq_iff_eq.mpr hp

theorem readOperation_wellFormed : ∀ code, Gives (fun i => i.wellFormed = true) (readOperation code)
  -- PRI and HDR
  | 0x00 => gives_andThen fun _ => gives_andThen fun _ => gives_done rfl
  | 0x01 => gives_andThen fun _ => gives_done rfl
  | 0x02 => gives_andThen fun _ => gives_andThen fun _ => gives_andThen fun _ => gives_done rfl
  | 0x03 => shortSeq_gives.andThen fun _ h => gives_done (decide_eq_true h)
  | 0x04 => gives_andThen fun _ => gives_done rfl
  | 0x05 => gives_andThen fun _ => gives_done rfl
  | 0x06 => gives_andThen fun _ => gives_done rfl
  | 0x07 => gives_andThen fun _ => gives_andThen fun _ => gives_done rfl
  -- CAT and MSG
  | 0x08 => gives_andThen fun _ => gives_done rfl
  | 0x09 => gives_andThen fun _ => gives_done rfl
  | 0x0A => gives_done rfl
  | 0x0B => gives_andThen fun _ => gives_andThen fun _ => gives_done rfl
  | 0x0C => gives_andThen fun _ => gives_done rfl
  | 0x0D => message_gives.andThen fun _ h => gives_done h
  | 0x0E => message_gives.andThen fun _ h1 => message_gives.andThen fun _ h2 => gives_done (Bool.and_eq_true_iff.mpr ⟨h1, h2⟩)
  | 0x0F => gives_done rfl
  -- PK
  | 0x10 => gives_andThen fun _ => engine_gives fun _ _ _ _ _ _ _ => rfl
  | 0x11 => gives_andThen fun _ => nodeEvent_gives fun _ _ => rfl
  | 0x12 => gives_andThen fun _ => station_gives fun _ _ _ _ _ _ => rfl
  | 0x13 => gives_andThen fun _ => name_gives.andThen fun _ h => gives_done h
  | 0x14 => gives_andThen fun _ => gives_andThen fun _ => gives_done rfl
  | 0x15 => gives_andThen fun _ => gives_andThen fun _ => gives_done rfl
  | 0x16 => gives_done rfl
  | 0x17 => gives_done rfl
  -- FRM
  | 0x18 => frame_gives.andThen fun _ h => gives_done h
  | 0x19 => gives_andThen fun _ => gives_done rfl
  | 0x1A => frame_gives.andThen fun _ h1 => frame_gives.andThen fun _ h2 => gives_done (Bool.and_eq_true_iff.mpr ⟨h1, h2⟩)
  | 0x1B => gives_done rfl
  | 0x1C => gives_done rfl
  | 0x1D => gives_done rfl
  | 0x1E => gives_done rfl
  | 0x1F => gives_done rfl
  | _ + 0x20 => gives_reject _

theorem readUnnumbered_wellFormed : ∀ row, Gives (fun i => i.wellFormed = true) (readUnnumbered row)
  | 0 => gives_andThen fun _ => gives_done rfl
  | 1 => gives_andThen fun _ => gives_andThen fun _ => gives_done rfl
  | 2 => gives_andThen fun _ => gives_done rfl
  | 3 => gives_andThen fun _ => gives_done rfl
  | 4 => gives_andThen fun _ => gives_done rfl
  | 5 => nodeEvent_gives fun _ _ => rfl
  | 6 => gives_andThen fun _ => engine_gives fun _ _ _ _ _ _ _ => rfl
  | 7 => gives_andThen fun _ => station_gives fun _ _ _ _ _ _ => rfl
  | 8 => gives_andThen fun _ => name_gives.andThen fun _ h => gives_done h
  | 9 => gives_andThen fun _ => gives_done rfl
  | 10 => gives_andThen fun _ => gives_done rfl
  | _ + 11 => gives_reject _

theorem readRow_wellFormed (word page : Byte) : Gives (fun i => i.wellFormed = true) (readRow word page) := by
  refine Gives.ite (fun _ => ?_) fun _ => Gives.ite (fun _ => ?_) fun _ => Gives.ite (fun _ => ?_) fun _ => gives_reject _
  · refine Gives.ite (fun _ => readOperation_wellFormed _) fun _ => Gives.ite (fun _ => ?_) fun _ =>
      Gives.ite (fun _ => ?_) fun _ => readRomRow_wellFormed word
    · exact gives_andThen fun _ => gives_done rfl
    · exact gives_andThen fun _ => gives_done rfl
  · exact Gives.ite (fun _ => readRomRow_wellFormed word) fun _ => gives_reject _
  · exact readUnnumbered_wellFormed _

/-- Settles O59: the decoder reads the row's two bytes and then a bundle of values its ports carry. -/
theorem decodedInstructionsAreWellFormed : Obligations.DecodedInstructionsAreWellFormed := fun bytes rest i hread =>
  (gives_andThen fun word => gives_andThen fun page => readRow_wellFormed word page : Gives _ decode) bytes i rest hread

/-- Settles O60: ten closed words, run through the decoder. -/
theorem tableWordsDecodeToTheirRows : Obligations.TableWordsDecodeToTheirRows := by
  unfold Obligations.TableWordsDecodeToTheirRows
  decide

namespace Machine

/-- Settles O46: a row presents its opcode and payload to the decoder, which constructs at a present opcode. -/
theorem romRowsPresentTheirMessage : Obligations.RomRowsPresentTheirMessage := by
  intro row hrow p s hc hlen
  rw [(romRows_presentMessage row hrow p).2 s]
  refine ⟨fun hp => ?_, fun habs => ?_⟩
  · rw [decodeMessage_cons_of_present hc hp, constructMessage_of_length_eq hc hp hlen]; exact answers_complete s _
  · rw [decodeMessage_cons_of_absent hc habs]; exact raises_raise s _

/-! Names (R116). -/

theorem romPresent_of_mem {rom : Rom} {v : Byte} {d : Descriptor} (h : (v, d) ∈ rom) : romPresent rom v = true := by
  induction rom with
  | nil => cases h
  | cons e rest ih =>
    rw [romPresent, romRead]
    split
    · rfl
    next hne =>
      rcases List.mem_cons.mp h with rfl | hrest
      · exact absurd rfl hne
      · exact ih hrest

/-- An element whose key no other has is all that a search for the key finds. -/
theorem filter_key_eq_singleton {rom : Rom} (hnodup : (rom.map fun e => e.2.name).Nodup) {e : Byte × Descriptor}
    (he : e ∈ rom) : (rom.filter fun x => x.2.name == e.2.name) = [e] := by
  induction rom with
  | nil => cases he
  | cons x rest ih =>
    rw [List.map_cons, List.nodup_cons] at hnodup
    obtain ⟨hx, hrest⟩ := hnodup
    rcases List.mem_cons.mp he with rfl | he
    · have hnone : (rest.filter fun x => x.2.name == e.2.name) = [] := by
        rw [List.filter_eq_nil_iff]
        intro y hy hname
        exact hx (List.mem_map.mpr ⟨y, hy, beq_iff_eq.mp hname⟩)
      rw [List.filter_cons, if_pos (beq_self_eq_true _), hnone]
    · have hne : ¬ (x.2.name == e.2.name) = true := fun hname =>
        hx (List.mem_map.mpr ⟨e, he, (beq_iff_eq.mp hname).symm⟩)
      rw [List.filter_cons, if_neg hne, ih hrest he]

/-- Settles O45: among distinct names a search by one finds the one entry that has it. -/
theorem distinctNamesDenoteOneEntry : Obligations.DistinctNamesDenoteOneEntry := by
  intro rom hnodup v d hmem
  refine ⟨?_, romPresent_of_mem hmem⟩
  rw [romNamed, filter_key_eq_singleton hnodup hmem]

end Machine
end Sys2Proof

/-! PROOF. The remaining laws of units PRI, HDR, MSG and PK (40_priority_packer.md to 44_payload_packers.md): what undoes what (O3, O7,
O9 to O11, O19), what is compared (O21), what is refused (O15, O17, O22), and the short layouts (O27, O28). -/

namespace Sys2Proof
namespace Bits

/-! Fields that were packed read back, and bytes that were read pack again, but for the bits no field holds. -/

theorem majorOf_packPri (major minor : BitVec 2) : majorOf (packPri major minor) = major := by
  apply BitVec.eq_of_toNat_eq
  rw [majorOf_toNat, packPri_toNat]; omega

theorem minorOf_packPri (major minor : BitVec 2) : minorOf (packPri major minor) = minor := by
  apply BitVec.eq_of_toNat_eq
  rw [minorOf_toNat, packPri_toNat]; omega

theorem packPri_unpacked (b : Byte) : packPri (majorOf b) (minorOf b) = b &&& 0xF0#8 := by
  revert b; decide

theorem highByte_headerOf (hb lb : Byte) : highByte (headerOf hb lb) = hb := by
  apply BitVec.eq_of_toNat_eq
  have hmajor : (headerOf hb lb).major.toNat = hb.toNat / 64 := majorOf_toNat hb
  have hminor : (headerOf hb lb).minor.toNat = hb.toNat / 16 % 4 := minorOf_toNat hb
  rw [highByte_toNat, headerOf_sid_toNat, hmajor, hminor]; omega

/-- Bits 4..0 of the second byte are not read (R94). -/
theorem and_0xE0_toNat (b : Byte) : (b &&& 0xE0#8).toNat = 32 * (b.toNat / 32) := by
  revert b; decide

theorem lowByte_headerOf (hb lb : Byte) : lowByte (headerOf hb lb) = lb &&& 0xE0#8 := by
  apply BitVec.eq_of_toNat_eq
  rw [lowByte_toNat, headerOf_sid_toNat, and_0xE0_toNat]; omega

/-- R97's second byte as a number: five bits of the high byte above three of the low byte. -/
theorem canLow_toNat (h : Header) :
    (canLow h).toNat = 8 * ((highByte h).toNat % 32) + (lowByte h).toNat / 32 := by
  have hmask (n : Nat) : n &&& 31 = n % 32 := Nat.and_two_pow_sub_one_eq_mod n 5
  have hupper : ((highByte h &&& 0x1F#8) <<< 3).toNat = ((highByte h).toNat % 32) <<< 3 := by
    rw [BitVec.toNat_shiftLeft, BitVec.toNat_and, BitVec.toNat_ofNat, hmask, Nat.shiftLeft_eq]; omega
  have hlower : (lowByte h >>> 5).toNat = (lowByte h).toNat / 32 := by
    rw [BitVec.toNat_ushiftRight, Nat.shiftRight_eq_div_pow]
  have hbelow : (lowByte h).toNat / 32 < 2 ^ 3 := by omega
  rw [canLow, BitVec.toNat_or, hupper, hlower, ← Nat.shiftLeft_add_eq_or_of_lt hbelow, Nat.shiftLeft_eq]
  omega

/-- The two bytes of the identifier are its 11 bits (R97). -/
theorem canId_toNat (h : Header) :
    256 * (canTop h).toNat + (canLow h).toNat = 512 * h.major.toNat + 128 * h.minor.toNat + h.sid.toNat := by
  rw [canTop_toNat, canLow_toNat, highByte_toNat, lowByte_toNat]; omega

end Bits

namespace Machine

theorem exec_priPack (major minor : BitVec 2) (s : State) :
    exec (.priPack major minor) s = .next (s.complete (.pri (Bits.packPri major minor))) := rfl

theorem exec_priUnpack (b : Byte) (s : State) :
    exec (.priUnpack b) s = .next (s.complete (.priorities (Bits.majorOf b) (Bits.minorOf b))) := rfl

theorem exec_hdrCanid (h : Header) (s : State) :
    exec (.hdrCanid h) s = .next (s.complete (.canId (Bits.canTop h) (Bits.canLow h))) := rfl

theorem exec_hdrEq (h1 h2 : Header) (s : State) :
    exec (.hdrEq h1 h2) s = .next (s.complete (.bit (headerEq h1 h2))) := rfl

/-- Settles O3: both ways the second operation completes with what the packing lemmas say. -/
theorem priPackAndUnpackAreInverse : Obligations.PriPackAndUnpackAreInverse := by
  refine ⟨fun major minor s => ⟨_, _, exec_priPack major minor s, rfl, ?_⟩,
    fun b s => ⟨_, _, _, exec_priUnpack b s, rfl, ?_⟩⟩
  · rw [exec_priUnpack, Bits.majorOf_packPri, Bits.minorOf_packPri]; exact answers_complete _ _
  · rw [exec_priPack, Bits.packPri_unpacked]; exact answers_complete _ _

/-- Settles O7: HDR.CANID completes with the two bytes, which are the rule's numbers. -/
theorem hdrCanidGivesElevenBits : Obligations.HdrCanidGivesElevenBits := by
  intro h s
  have htop := Bits.canTop_toNat h
  have hhigh := (Bits.highByte h).isLt
  refine ⟨hasCode_of_encode rfl, Bits.canTop h, Bits.canLow h, htop, Bits.canLow_toNat h, by omega, Bits.canId_toNat h, ?_⟩
  rw [exec_hdrCanid]; exact answers_complete s _

/-- Settles O9: HDR.EQ completes with the comparison of the packed bytes, and packing is injective. -/
theorem hdrEqComparesPackedBytes : Obligations.HdrEqComparesPackedBytes := by
  intro h1 h2 s
  refine ⟨hasCode_of_encode rfl, headerEq h1 h2, ?_, ?_, Bits.packed_eq_iff h1 h2⟩
  · rw [exec_hdrEq]; exact answers_complete s _
  · rw [headerEq_iff, Bits.packed_eq_iff]

/-- Settles O10: the three operations in turn, the last reading back what the second packed. -/
theorem headerRoundTripsThroughRegisterForm : Obligations.HeaderRoundTripsThroughRegisterForm := by
  intro major minor sidIn s hle
  have hsid : (sidIn.setWidth 7).toNat = sidIn.toNat := by rw [BitVec.toNat_setWidth]; omega
  refine ⟨_, _, _, _, _, exec_hdrEnc_of_le hle major minor s, rfl, exec_hdrReg _ _, rfl, ?_, rfl, rfl, hsid⟩
  rw [exec_hdrDec, presentHeader_pair, Bits.headerOf_packed]; exact answers_complete _ _

/-- Settles O11: the packed bytes of a decoded header. -/
theorem reencodingClearsLowBits : Obligations.ReencodingClearsLowBits := by
  intro hb lb s
  refine ⟨_, _, presentHeader_pair hb lb s, rfl, ?_⟩
  rw [exec_hdrReg, Bits.highByte_headerOf, Bits.lowByte_headerOf]; exact answers_complete _ _

/-- Settles O19: at a present opcode decoding is constructing, and what was decoded is its own bytes. -/
theorem msgDecInvertsBinaryForm : Obligations.MsgDecInvertsBinaryForm := by
  refine ⟨fun v p s hc hp hlen => ?_, fun bs m s t hnext hres => ?_⟩
  · have hnew := constructMessage_of_length_eq hc hp hlen
    exact ⟨_, by rw [exec_msgDec, decodeMessage_cons_of_present hc hp, hnew], by rw [exec_msgNew, hnew], rfl⟩
  · obtain ⟨-, ⟨m', hm, rfl⟩ | ⟨e, -, rfl⟩⟩ := decodeMessage_next hnext
    · obtain rfl : m' = m := by simpa using hres
      exact (messageOf_ok hm).1
    · cases hres

/-! What is refused: an image CAT.CHECK rejects, an absent opcode, a value that is no message. -/

section Refused

variable {s : State}

theorem constructMessage_of_invalid (hc : romCheck s.rom = false) (v : Byte) (p : Option (List Byte)) :
    constructMessage v p s = .refused .romImageInvalid :=
  withRom_of_not_check hc

theorem constructMessage_of_absent {v : Byte} (hc : romCheck s.rom = true) (hp : ¬ Present s v) (p : Option (List Byte)) :
    constructMessage v p s = .refused (.opcodeAbsent v) := by
  rw [constructMessage, withRom_of_check hc, withPresent_of_absent (Bool.eq_false_iff.mpr hp)]

theorem exec_pkName_of_nameOk {name : List Byte} (h : Instr.nameOk name = true) (v : Byte) (s : State) :
    exec (.pkName v name) s = constructMessage v (some (namePayload name)) s :=
  exec_pkName_of_ascii ((Instr.nameOk_iff name).mp h) v s

theorem withMessage_of_not_ok {m : Message} (h : m.lengthOk = false) (k : Host.Outcome State Fault Refusal) :
    withMessage m k = .refused .notAMessage := by
  rw [withMessage, h]; rfl

theorem withFrame_of_not_ok {f : Frame} (h : f.messageOk = false) (k : Host.Outcome State Fault Refusal) :
    withFrame f k = .refused .notAMessage := by
  rw [withFrame, h]; rfl

/-- The operand tested first is refused for the same reason, so the second is refused either way. -/
theorem withMessage_refused (m : Message) :
    withMessage m (.refused .notAMessage) = .refused .notAMessage := by
  rw [withMessage, ite_self]

theorem withFrame_refused (f : Frame) : withFrame f (.refused .notAMessage) = .refused .notAMessage := by
  rw [withFrame, ite_self]

end Refused

/-- Settles O15: each of the rows tests the image before it reads the ROM. -/
theorem invalidImageIsRefused : Obligations.InvalidImageIsRefused := by
  intro s hc
  have hnew := constructMessage_of_invalid hc
  exact ⟨fun _ => withRom_of_not_check hc, hnew, fun _ => withRom_of_not_check hc, fun v _ _ _ _ _ _ _ => hnew v _,
    fun v _ _ => hnew v _, fun v _ _ _ _ _ _ => hnew v _, fun v n hn => by rw [exec_pkName_of_nameOk hn, hnew],
    fun v _ => hnew v _, fun v _ => hnew v _, fun _ => withRom_of_not_check hc⟩

/-- Settles O17: each of the rows constructs a message at the opcode. -/
theorem absentOpcodeIsRefused : Obligations.AbsentOpcodeIsRefused := by
  intro v s hc hp
  have hnew := constructMessage_of_absent hc hp
  exact ⟨hnew, fun _ _ _ _ _ _ _ => hnew _, fun _ _ => hnew _, fun _ _ _ _ _ _ => hnew _,
    fun n hn => by rw [exec_pkName_of_nameOk hn, hnew], fun _ => hnew _, fun _ => hnew _⟩

theorem exec_msgEq (m1 m2 : Message) (s : State) :
    exec (.msgEq m1 m2) s = withMessage m1 (withMessage m2 (.next (s.complete (.bit (messageEq m1 m2))))) := rfl

theorem exec_frmEq (f1 f2 : Frame) (s : State) :
    exec (.frmEq f1 f2) s = withFrame f1 (withFrame f2 (.next (s.complete (.bit (frameEq f1 f2))))) := rfl

/-- Settles O22: the operand's own test refuses it, before or after the other's. -/
theorem notAMessageIsRefused : Obligations.NotAMessageIsRefused := by
  intro m s hm
  have hframe (h : Header) (rtr : Bool) : Frame.messageOk { header := h, message := some m, rtr := rtr } = false := hm
  refine ⟨withMessage_of_not_ok hm _, fun m2 => ?_, fun m1 => ?_, fun h rtr => withFrame_of_not_ok (hframe h rtr) _,
    fun h rtr f2 => ?_, fun f1 h rtr => ?_⟩
  · rw [exec_msgEq, withMessage_of_not_ok hm]
  · rw [exec_msgEq, withMessage_of_not_ok hm, withMessage_refused]
  · rw [exec_frmEq, withFrame_of_not_ok (hframe h rtr)]
  · rw [exec_frmEq, withFrame_of_not_ok (hframe h rtr), withFrame_refused]

/-- Settles O21: MSG.EQ completes with the comparison, and the binary form is the opcode and the payload. -/
theorem msgEqComparesBytes : Obligations.MsgEqComparesBytes := by
  intro m1 m2 s h1 h2
  refine ⟨hasCode_of_encode rfl, messageEq m1 m2, ?_, ?_, ?_⟩
  · rw [exec_msgEq, withMessage_of_ok h1, withMessage_of_ok h2]; exact answers_complete s _
  · rw [messageEq, Bool.and_eq_true, beq_iff_eq, beq_iff_eq]
  · rw [messageEq, Bool.and_eq_true, beq_iff_eq, beq_iff_eq, Message.bytes, Message.bytes, List.cons.injEq]

theorem exec_pkU16 (v : Byte) (n : BitVec 16) (s : State) :
    exec (.pkU16 v n) s = constructMessage v (some (Bits.be16 n)) s := rfl

theorem exec_pkU8 (v n : Byte) (s : State) : exec (.pkU8 v n) s = constructMessage v (some [n]) s := rfl

/-- Settles O27: the layout is the number's two bytes. -/
theorem pkU16PacksBigEndian : Obligations.PkU16PacksBigEndian := by
  intro v n s hc hp
  obtain ⟨n1, n0, hn1, hn0, hbytes⟩ := Bits.be16_eq_pair n
  rw [exec_pkU16, hbytes]
  exact ⟨hasCode_of_encode rfl, fun hv => ⟨n1, n0, hn1, hn0, constructMessage_answers hc hp rfl hv⟩,
    fun hv => constructMessage_raises hc hp rfl hv⟩

/-- Settles O28: the layout is the byte. -/
theorem pkU8PacksOneByte : Obligations.PkU8PacksOneByte := by
  intro v n s hc hp
  rw [exec_pkU8]
  exact ⟨hasCode_of_encode rfl, fun hv => constructMessage_answers hc hp rfl hv,
    fun hv => constructMessage_raises hc hp rfl hv⟩

end Machine
end Sys2Proof

/-! PROOF. The rows of the table that are no operations of the spec (logs 2 and 4): the identifier of a header, the entry of a name,
and O41 to O44, each from the statement about the operation that the row runs. -/

namespace Sys2Proof
namespace Machine

theorem sevenByteOpcode_toNat (idx : BitVec 5) : (sevenByteOpcode idx).toNat = 0xE0 + idx.toNat := by
  revert idx; decide

/-- An 11-bit number is the identifier of the header its fields make (R54). -/
theorem headerOfCanId_toNat (id : BitVec 11) :
    512 * (Bits.headerOfCanId id).major.toNat + 128 * (Bits.headerOfCanId id).minor.toNat +
      (Bits.headerOfCanId id).sid.toNat = id.toNat := by
  simp only [Bits.headerOfCanId, BitVec.extractLsb'_toNat, Nat.shiftRight_eq_div_pow]
  have := id.isLt
  omega

theorem present_of_named {s : State} {name : String} {v : Byte} (h : romNamed s.rom name = some v) : Present s v := by
  have hmem : ∃ d, (v, d) ∈ s.rom := by
    unfold romNamed at h
    split at h
    next e he =>
      obtain rfl : e.1 = v := Option.some.inj h
      have he' : e ∈ s.rom.filter fun e => e.2.name == name := he ▸ List.mem_singleton_self e
      exact ⟨e.2, (List.mem_filter.mp he').1⟩
    next => cases h
  obtain ⟨d, hd⟩ := hmem
  exact romPresent_of_mem hd

section NamedRows

variable {s : State} {name : String} (hc : romCheck s.rom = true)
include hc

/-- A row that goes by a name constructs at the entry's address. -/
theorem named_of_some {v : Byte} (h : romNamed s.rom name = some v) (p : Option (List Byte)) :
    (withRom s (withNamed name s fun v => constructMessage v p s)) = constructMessage v p s := by
  rw [withRom_of_check hc, withNamed_of_named h]

/-- And is refused without one. -/
theorem named_of_none (h : romNamed s.rom name = none) (f : Byte → Host.Outcome State Fault Refusal) :
    withRom s (withNamed name s f) = .refused (.noSuchEntry name) := by
  rw [withRom_of_check hc, withNamed, h]

/-- What the rows CMDERR and ERR do at their entry (R131): the constructor's three cases. -/
theorem named_constructs {v : Byte} (h : romNamed s.rom name = some v) :
    (∀ p : List Byte, p.length = v.toNat / 32 →
      Answers s (withRom s (withNamed name s fun v => constructMessage v (some p) s)) (.message { op := v, payload := p })) ∧
    (∀ p : List Byte, p.length ≠ v.toNat / 32 →
      Raises s (withRom s (withNamed name s fun v => constructMessage v (some p) s)) .payloadLengthMismatch) ∧
    Answers s (withRom s (withNamed name s fun v => constructMessage v none s))
      (.message { op := v, payload := List.replicate (v.toNat / 32) 0x00#8 }) := by
  have hp := present_of_named h
  refine ⟨fun p hlen => ?_, fun p hlen => ?_, ?_⟩
  · rw [named_of_some hc h, constructMessage_of_length_eq hc hp hlen]; exact answers_complete s _
  · rw [named_of_some hc h, constructMessage_of_length_ne hc hp hlen]; exact raises_raise s _
  · rw [named_of_some hc h, constructMessage_omitted hc hp]; exact answers_complete s _

end NamedRows

theorem exec_entryCmderr (p : Option (List Byte)) (s : State) :
    exec (.entryCmderr p) s = withRom s (withNamed "CMDERR" s fun v => constructMessage v p s) := rfl

theorem exec_entryErr (p : Option (List Byte)) (s : State) :
    exec (.entryErr p) s = withRom s (withNamed "ERR" s fun v => constructMessage v p s) := rfl

theorem exec_entryAcon (node event : BitVec 16) (s : State) :
    exec (.entryAcon node event) s =
      withRom s (withNamed "ACON" s fun v => constructMessage v (some (eventPayload node event)) s) := rfl

/-- Settles O44: at its entry a row constructs, and without one it is refused. -/
theorem namedRowsConstructAtTheirEntry : Obligations.NamedRowsConstructAtTheirEntry := by
  intro s hc
  simp only [exec_entryCmderr, exec_entryErr, exec_entryAcon]
  exact ⟨fun v hv => named_constructs hc hv, fun v hv => named_constructs hc hv, fun h _ => named_of_none hc h _,
    fun h _ => named_of_none hc h _, fun h _ _ => named_of_none hc h _⟩

/-- Settles O41: each row runs the operation that uses its format, whose statement is known. -/
theorem formatRowsRunTheirOperation : Obligations.FormatRowsRunTheirOperation := by
  intro s
  refine ⟨fun b => ?_, fun hb lb => ?_, fun id => ?_, fun hc => ⟨fun v p hp hlen => ?_, fun bs => rfl, fun buf => ?_⟩⟩
  · obtain ⟨-, hunpack⟩ := priUnpackReadsFields b s
    exact hunpack
  · obtain ⟨-, hpair, -, -⟩ := hdrDecDecodesTwoBytes
    exact hpair hb lb s
  · exact ⟨_, _, (Bits.canId_toNat _).trans (headerOfCanId_toNat id), answers_complete s _⟩
  · obtain ⟨-, -, hcons⟩ := msgDecTestsInOrder s hc
    obtain ⟨-, -, hanswers⟩ := hcons v p
    exact hanswers hp hlen
  · obtain ⟨-, hscan⟩ := frmScanGivesTheFramesOfTheShapeMatches buf s hc
    exact hscan

/-- Settles O42: each row is its packer at the fixed opcode, whose length is the layout's. -/
theorem pseudoOperationRowsFixTheOpcode : Obligations.PseudoOperationRowsFixTheOpcode := by
  intro s hc
  refine ⟨fun n hp => ?_, fun n hp => ?_, fun node event v hv hlen => ?_⟩
  · obtain ⟨-, hpack, -⟩ := pkU8PacksOneByte 0x23 n s hc hp
    exact hpack (by decide)
  · obtain ⟨-, hpack, -⟩ := pkU16PacksBigEndian 0x40 n s hc hp
    exact hpack (by decide)
  · obtain ⟨-, hpack, -⟩ := pkAlevPacksNodeAndEvent v node event s hc (present_of_named hv)
    rw [exec_entryAcon, named_of_some hc hv, ← exec_pkAlev]
    exact hpack hlen

/-- Settles O43: the rows are their packers at `0xE0 + idx`, whose length is seven, as their layouts' is. -/
theorem reportRowsPackAtSevenByteOpcodes : Obligations.ReportRowsPackAtSevenByteOpcodes := by
  intro idx s
  have hv := sevenByteOpcode_toNat idx
  have hseven : (sevenByteOpcode idx).toNat / 32 = 7 := by omega
  refine ⟨sevenByteOpcode idx, hv, fun a b c d e f g => ⟨rfl, fun hc hp => ?_⟩, fun a b c d e f => ⟨rfl, fun hc hp => ?_⟩,
    fun n => ⟨rfl, fun hc hp hascii => ?_⟩⟩
  · have hlen := enginePayload_length a b c d e f g
    exact ⟨_, hlen, constructMessage_answers hc hp hlen hseven⟩
  · have hlen := stationPayload_length a b c d e f
    exact ⟨_, hlen, constructMessage_answers hc hp hlen hseven⟩
  · have hrun : exec (.entryModuleName idx n) s = constructMessage (sevenByteOpcode idx) (some (namePayload n)) s :=
      exec_pkName_of_ascii hascii (sevenByteOpcode idx) s
    rw [hrun]
    exact ⟨_, namePayload_length n, constructMessage_answers hc hp (namePayload_length n) hseven⟩

end Machine
end Sys2Proof
